-- ==== Sys2Proof/Word.lean ====
section
/-! DEFINITION. Words, the numbers that name ports, slots, channels and patterns, and a fixed bank of
like things (four ports, sixty-four slots, eight channels). -/

namespace Sys2Proof

/-- A byte of a slot, a message or the pattern memory. -/
abbrev Byte := BitVec 8

/-- A 16-bit number: the frame counter, the map generation, an epoch. -/
abbrev Half := BitVec 16

/-- A 24-bit number: a pattern memory address, a pattern length (R138, R157). -/
abbrev Addr := BitVec 24

/-- A stream port, 0 to 3. -/
abbrev Port := Fin 4

/-- A slot number, 0 to 63 (R1). -/
abbrev Slot := Fin 64

/-- A playback channel, 0 to 7 (R140). -/
abbrev Channel := Fin 8

/-- A pattern number, 0 to 63 (R138). -/
abbrev Pattern := Fin 64

/-- One frame: a byte for every slot of its port's profile, in slot order (R51). -/
abbrev Frame := List Byte

/-- The four ports in ascending order. -/
def allPorts : List Port := [0, 1, 2, 3]

/-- The eight playback channels in ascending order. -/
def allChannels : List Channel := [0, 1, 2, 3, 4, 5, 6, 7]

/-- A fixed number of like things, indexed by their number. -/
structure Bank (n : Nat) (α : Type) where
  cells : Vector α n
  deriving DecidableEq, Repr

/-- The thing with number `i`. -/
def Bank.get {n : Nat} {α : Type} (b : Bank n α) (i : Fin n) : α := b.cells[i.val]

/-- Replace the thing with number `i`. -/
def Bank.set {n : Nat} {α : Type} (b : Bank n α) (i : Fin n) (x : α) : Bank n α :=
  ⟨b.cells.set i.val x i.isLt⟩

/-- A bank of `n` equal things. -/
def Bank.all {n : Nat} {α : Type} (x : α) : Bank n α := ⟨Vector.replicate n x⟩

/-- The bank whose thing with number `i` is `f i`. -/
def Bank.build {n : Nat} {α : Type} (f : Fin n → α) : Bank n α :=
  ⟨⟨((List.finRange n).map f).toArray, by simp⟩⟩

/-- Change the thing with number `i` by `f`. -/
def Bank.modify {n : Nat} {α : Type} (b : Bank n α) (i : Fin n) (f : α → α) : Bank n α :=
  b.set i (f (b.get i))

end Sys2Proof
end

