-- ==== Sys2Proof/Syntax.lean ====
section
/-! DEFINITION. The commands: one constructor for each row of spec/opcode_table.json. The table gives
its rows no fields; the operands are what the rows' rules say each event carries. -/

namespace Sys2Proof

/-- What an exchange frame start is taken at: the local frame timer, or a frame start of a port
(R70). -/
inductive StartCause where
  | localTimer
  | frameStart (q : Port)
  deriving DecidableEq, Repr

/-- Which share of a frame start a FRAME_END takes. A frame start is two events that reach different
state and have no order between them (R94): the inbound frame completion and the outbound frame
start. `whole` takes both; the other two take one share, so that an exchange frame start of the same
instant can stand between them (R66). -/
inductive FrameShare where
  | whole
  | completion
  | start
  deriving DecidableEq, Repr

/-- The levels of the nine strap pins; `true` is high (R169). -/
structure Straps where
  sc0 : Bool
  sc1 : Bool
  sc2 : Bool
  sc3 : Bool
  rs2 : Bool
  rs1 : Bool
  rs0 : Bool
  ms1 : Bool
  ms0 : Bool
  deriving DecidableEq, Repr

/-- A port whose bit clock has stopped, and how many bits of what DOUTp then carried had been driven, one at
each rising edge (R87, R90, R96; log 13). -/
structure StoppedClock where
  port : Port
  sent : Nat
  deriving DecidableEq, Repr

/-- Where a frame pulse is found: `position` sampling edges after position 0 (R87), and, out of lock, after
`sent` bits of the fill byte's pattern were driven on DOUTp (R96; log 10, log 13). -/
structure PulsePlace where
  position : Nat
  sent     : Nat
  deriving DecidableEq, Repr

/-- The lapses an exchange frame start takes ahead of its switchover (R30, lapse first): that of `port`, and of
any of the ports of `also` that lapses at the same start (log 5). -/
structure LapseFirst where
  port : Port
  also : List Port
  deriving DecidableEq, Repr

/-- The commands of the part. In a request `p` is the port whose master sends it, `tag` its tag and
`fields` its body bytes from byte 2 on (R129); a body of any length can be sent. -/
inductive Instr where
  /-- Power-on or RST begins device reset (R168). -/
  | resetBegin
  /-- Neither reset source asserts any more; the straps are sampled (R168, R169). -/
  | resetEnd (straps : Straps)
  /-- An exchange frame start (R7, R70). -/
  | exchangeFrameStart (cause : StartCause)
  /-- The exchange frame start at which a port's lapse timer reaches 2048, with the lapse taken ahead of the
  switchover (R28 to R30). -/
  | lapse (first : LapseFirst)
  /-- The exchange frame start at which the candidate's count reaches 64 in QUALIFY (R75). -/
  | qualified
  /-- The exchange frame start at which a background candidate's count reaches 64 (R79). -/
  | revertiveSwitch
  /-- The first edge of BCKp in DARK (R90). -/
  | clockFound (p : Port)
  /-- 250 microseconds without an edge of a port's bit clock (R90). -/
  | clockWatchExpiry (clock : StoppedClock)
  /-- A frame pulse at port `p` and where it is found (R91, R92). With `deferStart` the outbound frame
  start of an entry to LOCKED is left for a following command of the same instant (R121). -/
  | framePulse (p : Port) (place : PulsePlace) (deferStart : Bool)
  /-- No pulse at position B in CONFIRM (R91). -/
  | confirmMissingPulse (p : Port)
  /-- Position B in LOCKED or COAST (R92): whether a pulse is found there, the slot bytes received
  since the port's last command of this frame, and the share of the frame start taken. -/
  | frameEnd (p : Port) (pulse : Bool) (rest : List Byte) (share : FrameShare)
  /-- The arrival of a check byte at a receiver in CHECK (R108, R109): the slot bytes received before
  the control slot in this frame, and the byte. -/
  | controlMessageReceived (p : Port) (earlier : List Byte) (check : Byte)
  /-- The outbound frame start at which the free sender starts the head reply (R117). -/
  | replyStart (p : Port)
  /-- The outbound frame start at which the free sender starts the head notice (R117). -/
  | noticeStart (p : Port)
  | probe (p : Port) (tag : Byte) (fields : List Byte)
  | claim (p : Port) (tag : Byte) (fields : List Byte)
  | release (p : Port) (tag : Byte) (fields : List Byte)
  | stage (p : Port) (tag : Byte) (fields : List Byte)
  | discard (p : Port) (tag : Byte) (fields : List Byte)
  | apply (p : Port) (tag : Byte) (fields : List Byte)
  | readRoute (p : Port) (tag : Byte) (fields : List Byte)
  | readPort (p : Port) (tag : Byte) (fields : List Byte)
  | readReference (p : Port) (tag : Byte) (fields : List Byte)
  | readChannel (p : Port) (tag : Byte) (fields : List Byte)
  | setReferences (p : Port) (tag : Byte) (fields : List Byte)
  | setProfile (p : Port) (tag : Byte) (fields : List Byte)
  | restart (p : Port) (tag : Byte) (fields : List Byte)
  | play (p : Port) (tag : Byte) (fields : List Byte)
  | stop (p : Port) (tag : Byte) (fields : List Byte)
  | noticeMask (p : Port) (tag : Byte) (fields : List Byte)
  /-- A request whose kind byte is none of the sixteen (R126). -/
  | unknownKind (p : Port) (kind : Byte) (tag : Byte) (fields : List Byte)
  /-- The arbiter's choice (R160). -/
  | arbiterChoice
  /-- A burst ends with `bytes` read (R162). -/
  | burstCompletion (bytes : List Byte)
  /-- LOAN_REQ rises (R163). -/
  | loanReqAssertion
  /-- LOAN_REQ falls (R164). -/
  | loanReqRelease
  /-- The last bit of the control slot at port `p` in LOCKED or COAST (R95, R108): the slot bytes
  received before the control slot in this frame, and the control byte. -/
  | controlByteArrival (p : Port) (earlier : List Byte) (b : Byte)
  deriving DecidableEq, Repr

end Sys2Proof
end

