-- ==== Sys2Proof/Decode.lean ====
section
/-! DEFINITION. The table's words. No row of spec/opcode_table.json gives bits (fixed or fields), so no
word spells a command (log 26): requests reach the part as framed messages, which the receiver of a
control channel decodes (Machine/Channel.lean, Machine/Requests.lean), not as words. -/

namespace Sys2Proof

/-- The command a word spells by the table's bits: none, since no row gives any. -/
def decodeTableWord (_nbits _w : Nat) : Option Instr := none

end Sys2Proof
end

