-- ==== Sys2Proof/Config.lean ====
section
/-! DEFINITION. The values the spec leaves open. Each is an opaque constant: no proof can see what it
is, so whatever is proved holds for every value of it. -/

namespace Sys2Proof

/-- A byte of a frame or burst that the command announcing it does not carry, by the count of free
values drawn so far and its place (log 14). -/
opaque Config.freeByte : Nat → Nat → Byte

/-- The level at which the part drives MCK or MDO between bursts once it has issued one, where no rule
gives it (R159, R170, log 34), by the count of free values drawn so far. -/
opaque Config.freeLevel : Nat → Bool

end Sys2Proof
end

