-- ==== Sys2Proof/Machine/State.lean ====
section
/-! DEFINITION. The state of the part, block by block, as plain data; the state after reset; faults and
refusals. Each structure is one block's record and cites the rule that gives it. -/

namespace Sys2Proof.Machine

open Sys2Proof

/-! ### Stream ports (R88, R89, R100) -/

/-- The slot count of a profile: 32 or 64 (R89). -/
inductive SlotCount where
  | s32
  | s64
  deriving DecidableEq, Repr

/-- The control slot setting of a profile: slot 0 or the last slot (R89). -/
inductive ControlSlot where
  | first
  | last
  deriving DecidableEq, Repr

/-- A prime depth: 1 or 2 frames (R51, R89). -/
inductive PrimeDepth where
  | one
  | two
  deriving DecidableEq, Repr

/-- The profile of a port (R89). -/
structure Profile where
  slotCount   : SlotCount
  controlSlot : ControlSlot
  fill        : Byte
  depth       : PrimeDepth
  deriving DecidableEq, Repr

/-- The lock state of a port with its good count in CONFIRM and its bad count in COAST (R88). -/
inductive LockState where
  | dark
  | seek
  | confirm (good : Nat)
  | locked
  | coast (bad : Nat)
  deriving DecidableEq, Repr

/-- A pending action: a structural profile change or a restart (R88, R102, R104). -/
inductive PortAction where
  | profile (slotCount : SlotCount) (controlSlot : ControlSlot)
  | restart
  deriving DecidableEq, Repr

/-- The nine counters of a port (R100). -/
structure Counters where
  badFrames      : Byte
  lockLosses     : Byte
  inRepeats      : Byte
  inDrops        : Byte
  outRepeats     : Byte
  outDrops       : Byte
  checkErrors    : Byte
  framingErrors  : Byte
  intakeOverruns : Byte
  deriving DecidableEq, Repr

/-- What DOUTp carries: high since device reset (R88, R170), the bits of the fill byte in turn (R96),
the outbound frame (R96), or the level it last had (R90). Until the first rising edge of a pattern or a
frame it has the level `before`, since bits are driven at rising edges (R87). -/
inductive Dout where
  | high
  | pattern (before : Bool)
  | frame (before : Bool) (bytes : Frame)
  | held (level : Bool)
  deriving DecidableEq, Repr

/-- Which share of the present frame start is still to come, when its two events are taken apart. The
model's own field (log 9, log 22). -/
inductive Owing where
  | nothing
  | start
  | completion
  deriving DecidableEq, Repr

/-- The port record (R88). `position` is that at the port's last event, and 0 in DARK and SEEK (log 10).
`actionDue` is set while the outbound frame that carries the last byte of a marked reply is being sent (R118);
`misplaced` records a pulse at positions 1 to B - 1 (R92); `hasLocked` is set at the first entry to LOCKED since
device reset (R134). -/
structure PortUnit where
  lock      : LockState
  hasLocked : Bool
  position  : Nat
  profile   : Profile
  action    : Option PortAction
  actionDue : Bool
  misplaced : Bool
  received  : List Byte
  counters  : Counters
  dout      : Dout
  owing     : Owing
  deriving DecidableEq, Repr

/-! ### Elastic stores (R51) -/

/-- The store record (R51). -/
structure Store where
  queue  : List Frame
  primed : Bool
  last   : Option Frame
  depth  : PrimeDepth
  deriving DecidableEq, Repr

/-! ### Reference unit (R68, R69, R71) -/

/-- The modes of the reference unit (R68). -/
inductive RefMode where
  | free
  | qualify
  | tracking
  | holdover
  deriving DecidableEq, Repr

/-- The reference record (R68), the candidate list and revertive flag (R69), the local frame timer
(R71), a realignment in progress (R76), the source of the most recent exchange frame start (R72), and
the TRACK output (R85). -/
structure RefUnit where
  mode        : RefMode
  tracked     : Option Port
  candidate   : Option Port
  count       : Nat
  held        : Option Nat
  list        : List Port
  revertive   : Bool
  timer       : Nat
  realigning  : Bool
  lastStart   : StartCause
  track       : Bool
  deriving DecidableEq, Repr

/-! ### Exchange (R1, R2, R5, R6) -/

/-- The source of an entry (R2). -/
inductive Source where
  | idle
  | constant (v : Byte)
  | inbound (q : Port) (t : Slot)
  | playback (k : Channel)
  deriving DecidableEq, Repr

/-- One entry of the active exchange map (R1). -/
structure Entry where
  source : Source
  setGen : Half
  deriving DecidableEq, Repr

/-- The active exchange map, the exchange frame counter and the map generation (R1, R5, R6). -/
structure Exchange where
  map        : Bank 4 (Bank 64 Entry)
  counter    : Half
  generation : Half
  deriving DecidableEq, Repr

/-! ### Claim unit (R18, R28) -/

/-- A claimable object (R18). -/
inductive ClaimObject where
  | slot (p : Port) (s : Slot)
  | channel (k : Channel)
  | timing
  deriving DecidableEq, Repr

/-- The claim table and the lapse timers (R18, R28). -/
structure ClaimUnit where
  slots    : Bank 4 (Bank 64 (Option Port))
  channels : Bank 8 (Option Port)
  timing   : Option Port
  lapse    : Bank 4 Nat
  deriving DecidableEq, Repr

/-! ### Switchover unit (R34) -/

/-- One pending change: a target slot and a new source (R34). -/
structure Edit where
  port   : Port
  slot   : Slot
  source : Source
  deriving DecidableEq, Repr

/-- What an armed list waits for (R34). -/
inductive Target where
  | next
  | frame (n : Half)
  deriving DecidableEq, Repr

/-- A staging list. It is armed exactly while its target is present (R34, log 29). -/
structure StagingList where
  edits  : List Edit
  target : Option Target
  deriving DecidableEq, Repr

/-! ### Playback unit (R139, R140, R145, R146) -/

/-- Why a channel halted (R140). -/
inductive HaltReason where
  | stopped
  | badPattern
  | memoryRetaken
  deriving DecidableEq, Repr

/-- The state of a playback channel; the halt reason is present in HALTED only (R140). -/
inductive ChannelState where
  | idle
  | loading
  | priming
  | playing
  | ended
  | halted (reason : HaltReason)
  deriving DecidableEq, Repr

/-- The mode of a pattern (R138). -/
inductive PatternMode where
  | once
  | loop
  deriving DecidableEq, Repr

/-- A descriptor: what a valid directory record gives (R139). -/
structure Descriptor where
  mode       : PatternMode
  filler     : Byte
  start      : Addr
  length     : Addr
  loopOffset : Addr
  deriving DecidableEq, Repr

/-- The record of a playback channel (R140). -/
structure ChannelRecord where
  state     : ChannelState
  pattern   : Option Pattern
  desc      : Option Descriptor
  rest      : Byte
  nextFetch : Nat
  position  : Nat
  queue     : List Byte
  inFlight  : Nat
  epoch     : Half
  underruns : Byte
  deriving DecidableEq, Repr

/-- An entry of the descriptor cache (R145). -/
structure CacheEntry where
  pattern : Pattern
  desc    : Descriptor
  deriving DecidableEq, Repr

/-- The progress of a pending fetch (R146). -/
inductive FetchProgress where
  | awaitingIssue
  | issued
  deriving DecidableEq, Repr

/-- A pending descriptor fetch (R146). -/
structure Fetch where
  pattern  : Pattern
  waiters  : List Channel
  progress : FetchProgress
  deriving DecidableEq, Repr

/-- The playback unit: the channel records, the cache with its most recently used entry first, and the
pending fetches, oldest first. -/
structure PlaybackUnit where
  channels : Bank 8 ChannelRecord
  cache    : List CacheEntry
  fetches  : List Fetch
  deriving DecidableEq, Repr

/-! ### Pattern memory port (R157, R158) -/

/-- The states of the memory port (R157). -/
inductive MemState where
  | idle
  | reading
  | loanPending
  | loaned
  deriving DecidableEq, Repr

/-- What a burst is for (R157). -/
inductive BurstKind where
  | descriptor (n : Pattern)
  | refill (k : Channel) (epoch : Half)
  deriving DecidableEq, Repr

/-- A burst in flight (R157). -/
structure Burst where
  kind    : BurstKind
  address : Addr
  size    : Nat
  deriving DecidableEq, Repr

/-- The sampled memory size strap (R158, R169). -/
inductive MemSize where
  | none
  | mib1
  | mib4
  | mib16
  deriving DecidableEq, Repr

/-- The memory port record (R157), the memory size (R158), the LOAN_GNT output and the level of the
LOAN_REQ input (R163, R164); whether no burst has been issued since device reset, and the levels at which
the part drives MCK and MDO while no transaction runs (R170). -/
structure MemPort where
  state   : MemState
  burst   : Option Burst
  pointer : Channel
  size    : MemSize
  loanGnt : Bool
  loanReq : Bool
  quiet   : Bool
  mck     : Bool
  mdo     : Bool
  deriving DecidableEq, Repr

/-! ### Messages (R123 to R131) -/

/-- The status of a reply (R124). -/
inductive Status where
  | ok
  | late
  | unknownKind
  | badLength
  | badPort
  | badSlot
  | reservedSlot
  | badSource
  | notHolder
  | conflict
  | listFull
  | armed
  | empty
  | dependent
  | badChannel
  | badPattern
  | noMemory
  | badValue
  deriving DecidableEq, Repr

/-- A reply as it waits in the reply queue: complete but for its overrun field and check byte (R113).
`fields` are the body bytes from byte 4 on (R130); `marked` says that it carries the port's pending
action (R118). -/
structure Reply where
  kind   : Byte
  tag    : Byte
  status : Status
  fields : List Byte
  marked : Bool
  deriving DecidableEq, Repr

/-- The cause carried by a PORT_STATE notice (R99). -/
inductive PortCause where
  | clockFound
  | frameFound
  | clockLost
  | framingLost
  | restart
  | profile
  deriving DecidableEq, Repr

/-- The direction of a slipping store (R61). -/
inductive Direction where
  | inbound
  | outbound
  deriving DecidableEq, Repr

/-- The kind of a slip (R61). -/
inductive SlipKind where
  | repeated
  | dropped
  deriving DecidableEq, Repr

/-- The reason carried by a REFERENCE notice (R84). -/
inductive RefReason where
  | chosen
  | qualified
  | candidateLost
  | referenceLost
  | listChanged
  deriving DecidableEq, Repr

/-- The reason carried by an APPLY_CANCELLED notice (R46). -/
inductive CancelReason where
  | released
  | profile
  deriving DecidableEq, Repr

/-- The event carried by a MEMORY notice (R166). -/
inductive MemEvent where
  | loaned
  | returned
  deriving DecidableEq, Repr

/-- A notice with the fields its raising block fixes (R131). `applied` and `applyCancelled` name the
port of the staging list concerned, to which they are directed (R114). -/
inductive Notice where
  | portState (p : Port) (before after : LockState) (cause : PortCause) (losses : Byte) (frame : Half)
  | slip (p : Port) (direction : Direction) (kind : SlipKind) (count : Byte) (frame : Half)
  | reference (mode : RefMode) (tracked candidate : Option Port) (reason : RefReason)
      (held : Option Nat) (frame : Half)
  | claimsFreed (former : Port) (released : Nat)
  | applied (owner : Port) (generation frame : Half) (edits : Nat)
  | applyCancelled (owner : Port) (reason : CancelReason) (target : Target)
  | playback (k : Channel) (state : ChannelState) (pattern : Option Pattern) (frame : Half)
  | memory (event : MemEvent) (halted : Nat) (frame : Half)
  deriving DecidableEq, Repr

/-- A notice in a notice queue, with the lost field it took when it joined (R115, R131). -/
structure QueuedNotice where
  notice : Notice
  lost   : Byte
  deriving DecidableEq, Repr

/-! ### Control channels (R107, R110, R112, R113, R115 to R117) -/

/-- The states of a receiver (R107). -/
inductive RxState where
  | hunt
  | length
  | body
  | check
  deriving DecidableEq, Repr

/-- The receiver record: the partial message is the length byte and the body bytes so far (R107). -/
structure Receiver where
  state   : RxState
  partialMessage : Option (List Byte)
  running : Byte
  deriving DecidableEq, Repr

/-- A message being sent, with the number of its bytes placed (R117); `marked` as in its reply. -/
structure Sending where
  message : List Byte
  placed  : Nat
  marked  : Bool
  deriving DecidableEq, Repr

/-- A control channel. A message of the intake queue is its body bytes (R109, R110). -/
structure ControlChannel where
  rx      : Receiver
  intake  : List (List Byte)
  overrun : Byte
  replies : List Reply
  notices : List QueuedNotice
  lost    : Byte
  sender  : Option Sending
  mask    : BitVec 5
  deriving DecidableEq, Repr

/-! ### The whole part -/

/-- The part: its ten kinds of block. `inReset` is high while device reset lasts (R168); `freeCount`
counts the free values drawn, the model's own field (log 22). -/
structure Part where
  inReset   : Bool
  ports     : Bank 4 PortUnit
  inStores  : Bank 4 Store
  outStores : Bank 4 Store
  ref       : RefUnit
  exch      : Exchange
  claims    : ClaimUnit
  lists     : Bank 4 StagingList
  chans     : Bank 4 ControlChannel
  play      : PlaybackUnit
  mem       : MemPort
  freeCount : Nat
  deriving DecidableEq, Repr

/-- The part and the commands that wait for it, first in, first out. -/
structure State where
  part    : Part
  pending : List Instr
  deriving DecidableEq, Repr

/-- The part has no fault: the spec names none, and states what malformed messages, bad frames and lost
clocks do (log 31). -/
inductive Fault where
  deriving DecidableEq, Repr

/-- Refusals: none is ever answered, since every command has its meaning. -/
inductive Refusal where
  /-- Raised by exec for a row with no meaning yet; safe. No arm raises it. -/
  | notModelled (mnemonic : String)
  deriving DecidableEq, Repr

/-! ### The state after reset -/

/-- R89, with slot count 32 (strap low; log 15). -/
def Profile.reset : Profile := ⟨.s32, .first, 0xFF, .two⟩

/-- R100: every counter is 0. -/
def Counters.reset : Counters := ⟨0, 0, 0, 0, 0, 0, 0, 0, 0⟩

/-- R88: DARK, DOUTp driven high. -/
def PortUnit.reset : PortUnit where
  lock := .dark
  hasLocked := false
  position := 0
  profile := .reset
  action := none
  actionDue := false
  misplaced := false
  received := []
  counters := .reset
  dout := .high
  owing := .nothing

/-- R51: empty, not primed, no last yielded frame, prime depth 2. -/
def Store.reset : Store := ⟨[], false, none, .two⟩

/-- R68, R69, R71, R85: FREE, no candidate, nothing held, an empty list (strap low; log 15). -/
def RefUnit.reset : RefUnit where
  mode := .free
  tracked := none
  candidate := none
  count := 0
  held := none
  list := []
  revertive := false
  timer := 0
  realigning := false
  lastStart := .localTimer
  track := false

/-- R1, R5, R6: every entry IDLE with set-generation 0, counter and generation 0. -/
def Exchange.reset : Exchange := ⟨.all (.all ⟨.idle, 0⟩), 0, 0⟩

/-- R18, R28: no holder, every timer 0. -/
def ClaimUnit.reset : ClaimUnit := ⟨.all (.all none), .all none, none, .all 0⟩

/-- R34: empty, not armed. -/
def StagingList.reset : StagingList := ⟨[], none⟩

/-- R107: HUNT, nothing partial. -/
def Receiver.reset : Receiver := ⟨.hunt, none, 0⟩

/-- R107, R110, R112, R113, R115 to R117: all empty, mask 1DH. -/
def ControlChannel.reset : ControlChannel where
  rx := .reset
  intake := []
  overrun := 0
  replies := []
  notices := []
  lost := 0
  sender := none
  mask := 0x1D

/-- R140: IDLE with rest byte FFH. -/
def ChannelRecord.reset : ChannelRecord where
  state := .idle
  pattern := none
  desc := none
  rest := 0xFF
  nextFetch := 0
  position := 0
  queue := []
  inFlight := 0
  epoch := 0
  underruns := 0

/-- R140, R145, R146. -/
def PlaybackUnit.reset : PlaybackUnit := ⟨.all .reset, [], []⟩

/-- R157, R158, R170: IDLE, arbiter pointer 7, LOAN_GNT, MCK and MDO low, no burst issued; no pattern memory
(straps low; log 15). -/
def MemPort.reset : MemPort := ⟨.idle, none, 7, .none, false, false, true, false, false⟩

/-- The part right after device reset with every strap low and LOAN_REQ low (R168, R169; log 15). -/
def Part.reset : Part where
  inReset := false
  ports := .all .reset
  inStores := .all .reset
  outStores := .all .reset
  ref := .reset
  exch := .reset
  claims := .reset
  lists := .all .reset
  chans := .all .reset
  play := .reset
  mem := .reset
  freeCount := 0

/-- The machine right after reset: no command waits. -/
def State.reset : State := ⟨.reset, []⟩

end Sys2Proof.Machine
end

