-- ==== Sys2Proof/Machine/Codes.lean ====
section
/-! DEFINITION. How values become message bytes: the codes of R123 to R125, the check byte of R106, the
bodies of notices (R131) and replies (R128, R130), and the framing of a message (R106). -/

namespace Sys2Proof.Machine

open Sys2Proof

/-! ### Numbers as bytes (R125) -/

/-- A two-byte field, most significant byte first (R125). -/
def be16 (h : Half) : List Byte := [h.extractLsb' 8 8, h.extractLsb' 0 8]

/-- A number as a two-byte field. -/
def be16Nat (n : Nat) : List Byte := be16 (BitVec.ofNat 16 n)

/-- A number as a three-byte field (R125). -/
def be24Nat (n : Nat) : List Byte :=
  [BitVec.ofNat 8 (n / 65536), BitVec.ofNat 8 (n / 256), BitVec.ofNat 8 n]

/-- The number in two bytes, the most significant first. -/
def half (hi lo : Byte) : Half := hi ++ lo

/-- The number in three bytes, the most significant first. -/
def addr (b2 b1 b0 : Byte) : Addr := b2 ++ b1 ++ b0

/-- A count as one byte. -/
def byteOf (n : Nat) : Byte := BitVec.ofNat 8 n

/-- A field that may name a port or none: FFH for none (R125). -/
def optPortCode : Option Port → Byte
  | none => 0xFF
  | some p => byteOf p.val

/-- A field that may name a pattern or none: FFH for none (R125). -/
def optPatternCode : Option Pattern → Byte
  | none => 0xFF
  | some n => byteOf n.val

/-- A flag as a byte: 01H when set (R125: primed flag, revertive flag). -/
def flagCode (b : Bool) : Byte := if b then 1 else 0

/-! ### Profiles and lock states -/

/-- The number of slots (R89). -/
def SlotCount.toNat : SlotCount → Nat
  | .s32 => 32
  | .s64 => 64

/-- The number of frames (R51). -/
def PrimeDepth.toNat : PrimeDepth → Nat
  | .one => 1
  | .two => 2

/-- The slot that a control slot setting names: slot 0, or the last slot of the slot count (R89). -/
def controlIndex (n : SlotCount) : ControlSlot → Nat
  | .first => 0
  | .last => n.toNat - 1

/-- The control slot of a profile. -/
def Profile.control (f : Profile) : Nat := controlIndex f.slotCount f.controlSlot

/-- The slot count of a profile as a number. -/
def Profile.slots (f : Profile) : Nat := f.slotCount.toNat

/-- The number of bits B of a frame of a profile: 8 for each slot (R87). -/
def Profile.bits (f : Profile) : Nat := 8 * f.slots

/-- Slot `i` is an affected slot of a change to slot count `n` and control slot `c`: at or beyond the new
slot count, or the new control slot (R16, R101). -/
def affected (n : SlotCount) (c : ControlSlot) (i : Nat) : Bool :=
  n.toNat ≤ i || i == controlIndex n c

/-- In lock: LOCKED or COAST (R97). -/
def LockState.inLock : LockState → Bool
  | .locked | .coast _ => true
  | .dark | .seek | .confirm _ => false

/-! ### Codes (R124, R125) -/

/-- R125, slot count: 20H or 40H. -/
def SlotCount.code : SlotCount → Byte
  | .s32 => 0x20
  | .s64 => 0x40

/-- R125, control slot. -/
def ControlSlot.code : ControlSlot → Byte
  | .first => 0
  | .last => 1

/-- The prime depth as a number (R129). -/
def PrimeDepth.code (d : PrimeDepth) : Byte := byteOf d.toNat

/-- R125, lock state. -/
def LockState.code : LockState → Byte
  | .dark => 0
  | .seek => 1
  | .confirm _ => 2
  | .locked => 3
  | .coast _ => 4

/-- The bad count of READ_PORT: 00H outside COAST (R125, R134). -/
def LockState.badCode : LockState → Byte
  | .coast n => byteOf n
  | _ => 0

/-- R125, PORT_STATE cause. -/
def PortCause.code : PortCause → Byte
  | .clockFound => 1
  | .frameFound => 2
  | .clockLost => 3
  | .framingLost => 4
  | .restart => 5
  | .profile => 6

/-- R125, pending action, with the pending slot count and control slot (R134). -/
def actionCodes : Option PortAction → List Byte
  | none => [0, 0, 0]
  | some (.profile n c) => [1, n.code, c.code]
  | some .restart => [2, 0, 0]

/-- R125, source kind, with the two source bytes (R133). -/
def Source.codes : Source → List Byte
  | .idle => [0, 0, 0]
  | .constant v => [1, v, 0]
  | .inbound q t => [2, byteOf q.val, byteOf t.val]
  | .playback k => [3, byteOf k.val, 0]

/-- R125, object class, with the object bytes a and b (R130). -/
def ClaimObject.codes : ClaimObject → List Byte
  | .slot p s => [1, byteOf p.val, byteOf s.val]
  | .channel k => [2, byteOf k.val, 0]
  | .timing => [3, 0, 0]

/-- R125, APPLY mode and APPLY_CANCELLED target, with the target frame (R131). -/
def Target.codes : Target → List Byte
  | .next => 0 :: be16 0
  | .frame n => 1 :: be16 n

/-- R125, reference mode. -/
def RefMode.code : RefMode → Byte
  | .free => 0
  | .qualify => 1
  | .tracking => 2
  | .holdover => 3

/-- R125, REFERENCE reason. -/
def RefReason.code : RefReason → Byte
  | .chosen => 1
  | .qualified => 2
  | .candidateLost => 3
  | .referenceLost => 4
  | .listChanged => 5

/-- R125, slip direction. -/
def Direction.code : Direction → Byte
  | .inbound => 0
  | .outbound => 1

/-- R125, slip kind. -/
def SlipKind.code : SlipKind → Byte
  | .repeated => 0
  | .dropped => 1

/-- R125, channel state. -/
def ChannelState.code : ChannelState → Byte
  | .idle => 0
  | .loading => 1
  | .priming => 2
  | .playing => 3
  | .ended => 4
  | .halted _ => 5

/-- R125, halt reason: 00H outside HALTED. -/
def ChannelState.haltCode : ChannelState → Byte
  | .halted .stopped => 1
  | .halted .badPattern => 2
  | .halted .memoryRetaken => 3
  | _ => 0

/-- R125, APPLY_CANCELLED reason. -/
def CancelReason.code : CancelReason → Byte
  | .released => 1
  | .profile => 2

/-- R125, MEMORY event. -/
def MemEvent.code : MemEvent → Byte
  | .loaned => 1
  | .returned => 2

/-- R124, status codes. -/
def Status.code : Status → Byte
  | .ok => 0x00
  | .late => 0x01
  | .unknownKind => 0x02
  | .badLength => 0x03
  | .badPort => 0x04
  | .badSlot => 0x05
  | .reservedSlot => 0x06
  | .badSource => 0x07
  | .notHolder => 0x08
  | .conflict => 0x09
  | .listFull => 0x0A
  | .armed => 0x0B
  | .empty => 0x0C
  | .dependent => 0x0D
  | .badChannel => 0x0E
  | .badPattern => 0x0F
  | .noMemory => 0x10
  | .badValue => 0x11

/-! ### The check byte and the framing (R106) -/

/-- One shift of the check register: left, and combined with 31H when the departing top bit was 1. -/
def checkShift (v : Byte) : Byte := if v.msb then (v <<< 1) ^^^ 0x31 else v <<< 1

/-- The running check after one more byte: combined by exclusive-or, then shifted eight times. -/
def checkStep (v b : Byte) : Byte :=
  checkShift (checkShift (checkShift (checkShift
    (checkShift (checkShift (checkShift (checkShift (v ^^^ b))))))))

/-- The check value of a sequence of bytes, from 00H. -/
def checkValue (bytes : List Byte) : Byte := bytes.foldl checkStep 0

/-- The sync byte (R106). -/
def syncByte : Byte := 0xD2

/-- A whole message: sync, length, body, check over the length and the body (R106). -/
def framed (body : List Byte) : List Byte :=
  syncByte :: byteOf body.length :: body ++ [checkValue (byteOf body.length :: body)]

/-! ### Bodies (R128, R131) -/

/-- The kind byte of a notice (R123). -/
def Notice.kind : Notice → Byte
  | .portState .. => 0x41
  | .slip .. => 0x42
  | .reference .. => 0x43
  | .claimsFreed .. => 0x44
  | .applied .. => 0x45
  | .applyCancelled .. => 0x46
  | .playback .. => 0x47
  | .memory .. => 0x48

/-- The body bytes of a notice from byte 2 on (R131). -/
def Notice.fields : Notice → List Byte
  | .portState p before after cause losses frame =>
    [byteOf p.val, before.code, after.code, cause.code, losses] ++ be16 frame
  | .slip p direction kind count frame =>
    [byteOf p.val, direction.code, kind.code, count] ++ be16 frame
  | .reference mode tracked candidate reason held frame =>
    [mode.code, optPortCode tracked, optPortCode candidate, reason.code]
      ++ be16Nat (held.getD 0) ++ be16 frame
  | .claimsFreed former released => byteOf former.val :: be16Nat released
  | .applied _ generation frame edits => be16 generation ++ be16 frame ++ [byteOf edits]
  | .applyCancelled _ reason target => reason.code :: target.codes
  | .playback k state pattern frame =>
    [byteOf k.val, state.code, state.haltCode, optPatternCode pattern] ++ be16 frame
  | .memory event halted frame => [event.code, byteOf halted] ++ be16 frame

/-- The body of a queued notice: kind, lost field, fields (R131). -/
def QueuedNotice.body (n : QueuedNotice) : List Byte := n.notice.kind :: n.lost :: n.notice.fields

/-- The body of a reply with its overrun field written (R112, R128). -/
def Reply.body (r : Reply) (overrun : Byte) : List Byte :=
  r.kind :: r.tag :: r.status.code :: overrun :: r.fields

end Sys2Proof.Machine
end

