-- ==== Sys2Proof/Machine/Ops.lean ====
section
/-! DEFINITION. Shared operations: access to one block's record, the raising and routing of notices
(R114, R115), and the events of the elastic stores (R53 to R63). -/

namespace Sys2Proof.Machine

open Sys2Proof

/-! ### One record of the part -/

/-- Port unit `p`. -/
def Part.port (s : Part) (p : Port) : PortUnit := s.ports.get p

/-- Control channel `p`. -/
def Part.chan (s : Part) (p : Port) : ControlChannel := s.chans.get p

/-- Port `p` is LOCKED or COAST. -/
def Part.inLock (s : Part) (p : Port) : Bool := (s.port p).lock.inLock

/-- Change port unit `p`. -/
def Part.modifyPort (s : Part) (p : Port) (f : PortUnit → PortUnit) : Part :=
  { s with ports := s.ports.modify p f }

/-- Change control channel `p`. -/
def Part.modifyChan (s : Part) (p : Port) (f : ControlChannel → ControlChannel) : Part :=
  { s with chans := s.chans.modify p f }

/-- Change the counters of port `p` (R100). -/
def Part.count (s : Part) (p : Port) (f : Counters → Counters) : Part :=
  s.modifyPort p fun u => { u with counters := f u.counters }

/-- The value the exchange frame counter last reached (R6). -/
def Part.frameNumber (s : Part) : Half := s.exch.counter

/-- Entry (p, i) of the active map. -/
def Part.entry (s : Part) (p : Port) (i : Slot) : Entry := (s.exch.map.get p).get i

/-- The holder of an object in the claim table (R18). -/
def ClaimUnit.holder (c : ClaimUnit) : ClaimObject → Option Port
  | .slot p i => (c.slots.get p).get i
  | .channel k => c.channels.get k
  | .timing => c.timing

/-- Write the holder of an object. -/
def ClaimUnit.setHolder (c : ClaimUnit) (o : ClaimObject) (h : Option Port) : ClaimUnit :=
  match o with
  | .slot p i => { c with slots := c.slots.modify p fun row => row.set i h }
  | .channel k => { c with channels := c.channels.set k h }
  | .timing => { c with timing := h }

/-- One more on an 8-bit counter that saturates at 255 (R112, R115). -/
def saturatingNext (b : Byte) : Byte := if b = 0xFF then 0xFF else b + 1

/-- `n` bytes: those given, cut to `n`, and a free value for each that is not given (log 14). -/
def fitBytes (n seed : Nat) (bytes : List Byte) : List Byte :=
  bytes.take n ++ (List.range (n - bytes.length)).map fun i => Config.freeByte seed i

/-- The free counter after `bytes` were fitted to `n`: advanced when a free value was drawn. -/
def freeAfter (n seed : Nat) (bytes : List Byte) : Nat :=
  if bytes.length < n then seed + 1 else seed

/-! ### Notices (R114, R115) -/

/-- The bit of the notice mask that governs a broadcast notice; none for a directed one (R116, R125). -/
def Notice.maskBit : Notice → Option Nat
  | .portState .. => some 0
  | .slip .. => some 1
  | .reference .. => some 2
  | .claimsFreed .. => some 3
  | .memory .. => some 4
  | .applied .. | .applyCancelled .. | .playback .. => none

/-- The port a notice concerns, to which it is not routed (R114). -/
def Notice.concerned : Notice → Option Port
  | .portState p .. | .slip p .. | .claimsFreed p .. => some p
  | .reference .. | .memory .. | .applied .. | .applyCancelled .. | .playback .. => none

/-- The port a directed notice goes to: the port of its staging list, or the holder of its channel
(R114). -/
def Part.directedTo (s : Part) : Notice → Option Port
  | .applied owner .. | .applyCancelled owner .. => some owner
  | .playback k .. => s.claims.holder (.channel k)
  | _ => none

/-- Port `p` is admitted to the routing of a notice (R114). -/
def Part.admits (s : Part) (n : Notice) (p : Port) : Bool :=
  s.inLock p &&
    match n.maskBit with
    | some bit => n.concerned != some p && (s.chan p).mask.getLsbD bit
    | none => s.directedTo n == some p

/-- An admitted notice joins the notice queue with the lost tally in its lost field, or is discarded at a
full queue and the lost tally rises (R115). -/
def ControlChannel.enqueue (c : ControlChannel) (n : Notice) : ControlChannel :=
  if c.notices.length < 8 then
    { c with notices := c.notices ++ [⟨n, c.lost⟩], lost := 0 }
  else
    { c with lost := saturatingNext c.lost }

/-- Raise a notice: it is queued at every admitted port (R114). -/
def Part.raise (s : Part) (n : Notice) : Part :=
  { s with chans := .build fun p => if s.admits n p then (s.chan p).enqueue n else s.chan p }

/-- Raise notices in order. -/
def Part.raiseAll (s : Part) (ns : List Notice) : Part := ns.foldl Part.raise s

/-! ### Elastic stores -/

/-- A write to a full store discards its oldest frame: a drop slip (R55). -/
def Store.writeDrops (st : Store) : Bool := 4 ≤ st.queue.length

/-- The writer event: the oldest frame of a full queue goes, the new frame joins, and the store becomes
primed when it holds the prime depth in use (R55). -/
def Store.write (st : Store) (f : Frame) : Store :=
  let kept := if st.writeDrops then st.queue.tail else st.queue
  { st with
    queue := kept ++ [f]
    primed := st.primed || decide (st.depth.toNat ≤ (kept ++ [f]).length) }

/-- The yield of a read: nothing while not primed, else the oldest frame, else the last yielded frame
once more (R58). -/
def Store.yield (st : Store) : Option Frame :=
  if st.primed then (match st.queue with | f :: _ => some f | [] => st.last) else none

/-- A read of a primed, empty store is a repeat slip (R58). -/
def Store.readRepeats (st : Store) : Bool := st.primed && st.queue.isEmpty

/-- The reader event: the oldest frame of a primed store leaves and its copy becomes the last yielded
frame (R58, R59). -/
def Store.read (st : Store) : Store :=
  if st.primed then
    match st.queue with
    | f :: rest => { st with queue := rest, last := some f }
    | [] => st
  else st

/-- A flush: empty, not primed, nothing yielded, and the profile's prime depth copied (R62, R63). -/
def Store.flushed (depth : PrimeDepth) : Store := ⟨[], false, none, depth⟩

/-- One more on the counter of a slip (R60). -/
def Counters.addSlip (c : Counters) : Direction → SlipKind → Counters
  | .inbound, .repeated => { c with inRepeats := c.inRepeats + 1 }
  | .inbound, .dropped => { c with inDrops := c.inDrops + 1 }
  | .outbound, .repeated => { c with outRepeats := c.outRepeats + 1 }
  | .outbound, .dropped => { c with outDrops := c.outDrops + 1 }

/-- The counter of a slip (R60). -/
def Counters.slips (c : Counters) : Direction → SlipKind → Byte
  | .inbound, .repeated => c.inRepeats
  | .inbound, .dropped => c.inDrops
  | .outbound, .repeated => c.outRepeats
  | .outbound, .dropped => c.outDrops

/-- A slip of a store of port `p`: its counter rises and a SLIP notice carries the value just reached
(R60, R61). -/
def Part.slip (s : Part) (p : Port) (d : Direction) (k : SlipKind) : Part :=
  let s' := s.count p fun c => c.addSlip d k
  s'.raise (.slip p d k ((s'.port p).counters.slips d k) s.frameNumber)

/-- The writer event of inbound store `p`: an inbound frame completion (R53). -/
def Part.writeInbound (s : Part) (p : Port) (f : Frame) : Part :=
  let st := s.inStores.get p
  let s' := { s with inStores := s.inStores.set p (st.write f) }
  if st.writeDrops then s'.slip p .inbound .dropped else s'

/-- The reader event of inbound store `p`: an exchange frame start (R56). -/
def Part.readInbound (s : Part) (p : Port) : Part :=
  let st := s.inStores.get p
  let s' := { s with inStores := s.inStores.set p st.read }
  if st.readRepeats then s'.slip p .inbound .repeated else s'

/-- The writer event of outbound store `p`: the exchange's write of an assembled frame (R54). -/
def Part.writeOutbound (s : Part) (p : Port) (f : Frame) : Part :=
  let st := s.outStores.get p
  let s' := { s with outStores := s.outStores.set p (st.write f) }
  if st.writeDrops then s'.slip p .outbound .dropped else s'

/-- The reader event of outbound store `p`: an outbound frame start (R57). -/
def Part.readOutbound (s : Part) (p : Port) : Part :=
  let st := s.outStores.get p
  let s' := { s with outStores := s.outStores.set p st.read }
  if st.readRepeats then s'.slip p .outbound .repeated else s'

/-- Both stores of port `p` are flushed (R63). -/
def Part.flushStores (s : Part) (p : Port) : Part :=
  let depth := (s.port p).profile.depth
  { s with
    inStores := s.inStores.set p (.flushed depth)
    outStores := s.outStores.set p (.flushed depth) }

/-! ### Meanings -/

/-- The part's own share of a command: nothing is taken while device reset lasts (R168). -/
def Part.whenRunning (s : Part) (f : Part → Part) : Part := if s.inReset then s else f s

/-- A command's outcome: the part after it, the queue as it was. -/
def State.answer (s : State) (part : Part) : Host.Outcome State Fault Refusal :=
  .next { s with part := part }

end Sys2Proof.Machine
end

