-- ==== Sys2Proof/Machine/Operands.lean ====
section
/-! DEFINITION. What the bytes of a request say: kinds and body lengths (R123, R127), numbers and codes of
request fields (R125, R129), and the form every owning block's answer takes (R111). -/

namespace Sys2Proof.Machine

open Sys2Proof

/-! ### Kinds (R123) -/

/-- The sixteen requests. -/
inductive RequestKind where
  | probe
  | claim
  | release
  | stage
  | discard
  | apply
  | readRoute
  | readPort
  | readReference
  | readChannel
  | setReferences
  | setProfile
  | restart
  | play
  | stop
  | noticeMask
  deriving DecidableEq, Repr

/-- The kind byte of a request (R123). -/
def RequestKind.code : RequestKind → Byte
  | .probe => 0x01
  | .claim => 0x02
  | .release => 0x03
  | .stage => 0x04
  | .discard => 0x05
  | .apply => 0x06
  | .readRoute => 0x07
  | .readPort => 0x08
  | .readReference => 0x09
  | .readChannel => 0x0A
  | .setReferences => 0x0B
  | .setProfile => 0x0C
  | .restart => 0x0D
  | .play => 0x0E
  | .stop => 0x0F
  | .noticeMask => 0x10

/-- The request a kind byte names, if any (R123, R126). -/
def requestKind (b : Byte) : Option RequestKind :=
  [RequestKind.probe, .claim, .release, .stage, .discard, .apply, .readRoute, .readPort,
    .readReference, .readChannel, .setReferences, .setProfile, .restart, .play, .stop,
    .noticeMask].find? fun k => k.code == b

/-! ### Codes of request fields (R125, R129) -/

/-- A port number, 0 to 3. -/
def portOf (b : Byte) : Option Port := if h : b.toNat < 4 then some ⟨b.toNat, h⟩ else none

/-- A slot number, 0 to 63. -/
def slotOf (b : Byte) : Option Slot := if h : b.toNat < 64 then some ⟨b.toNat, h⟩ else none

/-- A channel number, 0 to 7. -/
def channelOf (b : Byte) : Option Channel := if h : b.toNat < 8 then some ⟨b.toNat, h⟩ else none

/-- A pattern number, 0 to 63. -/
def patternOf (b : Byte) : Option Pattern := if h : b.toNat < 64 then some ⟨b.toNat, h⟩ else none

/-- The class byte of CLAIM and RELEASE (R125). -/
inductive ObjectClass where
  | slots
  | channel
  | timing
  deriving DecidableEq, Repr

/-- The class a byte names, if any (R20). -/
def classOf (b : Byte) : Option ObjectClass :=
  if b = 1 then some .slots else if b = 2 then some .channel else if b = 3 then some .timing else none

/-- A slot count field (R125). -/
def slotCountOf (b : Byte) : Option SlotCount :=
  if b = 0x20 then some .s32 else if b = 0x40 then some .s64 else none

/-- A control slot field (R125). -/
def controlSlotOf (b : Byte) : Option ControlSlot :=
  if b = 0 then some .first else if b = 1 then some .last else none

/-- A prime depth field (R129). -/
def depthOf (b : Byte) : Option PrimeDepth :=
  if b = 1 then some .one else if b = 2 then some .two else none

/-- A revertive flag field (R125). -/
def revertiveOf (b : Byte) : Option Bool :=
  if b = 0 then some false else if b = 1 then some true else none

/-- The ports of a SET_REFERENCES list; none when one is above 3 (R81). -/
def portsOf (bytes : List Byte) : Option (List Port) := bytes.mapM portOf

/-! ### Body lengths (R127) -/

/-- The body length fits the kind; `fields` are the body bytes from byte 2 on, so a body of L bytes has
L - 2 fields (R127). -/
def lengthFits (k : RequestKind) (fields : List Byte) : Bool :=
  match k with
  | .probe | .discard | .readReference | .restart => fields.length == 0
  | .readPort | .readChannel | .stop | .noticeMask => fields.length == 1
  | .readRoute | .play => fields.length == 2
  | .apply => fields.length == 3
  | .setProfile => fields.length == 4
  | .stage => fields.length == 5
  | .claim | .release =>
    match fields with
    | [] => false
    | c :: rest =>
      match classOf c with
      | some .slots => rest.length == 3
      | some .channel => rest.length == 1
      | some .timing => rest.length == 0
      | none => true
  | .setReferences => 1 ≤ fields.length && fields.length ≤ 5

/-! ### Answers (R111) -/

/-- What the owning block makes of a request: the part after it, the status and fields of the reply, and
whether the reply carries the port's pending action (R118). -/
structure Answer where
  part   : Part
  status : Status
  fields : List Byte
  marked : Bool
  deriving DecidableEq, Repr

/-- A refusal: nothing has changed (R124). -/
def Part.refuse (s : Part) (status : Status) (fields : List Byte) : Answer := ⟨s, status, fields, false⟩

/-- An answer of status OK. -/
def Part.accept (s : Part) (fields : List Byte) : Answer := ⟨s, .ok, fields, false⟩

end Sys2Proof.Machine
end

