-- ==== Sys2Proof/Machine/Staging.lean ====
section
/-! DEFINITION. The switchover unit: staging lists, STAGE, DISCARD and APPLY, the switchover at an exchange
frame start, and the removal of edits (Chapter 3). -/

namespace Sys2Proof.Machine

open Sys2Proof

/-- The staging list of port `p`. -/
def Part.list (s : Part) (p : Port) : StagingList := s.lists.get p

/-- Armed or not armed (R34). -/
def StagingList.armed (l : StagingList) : Bool := l.target.isSome

/-- Emptied and disarmed (R39, R45, R48, R29). -/
def StagingList.cleared : StagingList := ⟨[], none⟩

/-! ### Removal of edits (R25, R32, R35, R49) -/

/-- The list without the edits that go; when none is left it is disarmed and its target cleared (R35). -/
def StagingList.without (l : StagingList) (gone : Edit → Bool) : StagingList :=
  let kept := l.edits.filter fun e => !gone e
  ⟨kept, if kept.isEmpty then none else l.target⟩

/-- The number of edits that go. -/
def StagingList.removed (l : StagingList) (gone : Edit → Bool) : Nat := (l.edits.filter gone).length

/-- Remove edits from the list of port `m`. An armed list that loses its last edit raises
APPLY_CANCELLED for its master (R25, R46). -/
def Part.removeEdits (s : Part) (m : Port) (gone : Edit → Bool) (reason : CancelReason) : Part :=
  let l := s.list m
  let s' := { s with lists := s.lists.set m (l.without gone) }
  match l.target with
  | some t =>
    if l.edits.any gone && (l.without gone).edits.isEmpty then s'.raise (.applyCancelled m reason t)
    else s'
  | none => s'

/-- The list of port `p` is emptied and disarmed, with no notice (R29, R39, R48). -/
def Part.clearList (s : Part) (p : Port) : Part := { s with lists := s.lists.set p .cleared }

/-! ### STAGE (R36 to R38) -/

/-- The source of a STAGE; none when it is malformed or names what cannot be a source (R38). -/
def Part.sourceOf (s : Part) (kind a b : Byte) : Option Source :=
  if kind = 0 then some .idle
  else if kind = 1 then some (.constant a)
  else if kind = 2 then
    match portOf a, slotOf b with
    | some q, some t =>
      let f := (s.port q).profile
      if t.val < f.slots && t.val != f.control then some (.inbound q t) else none
    | _, _ => none
  else if kind = 3 then (channelOf a).map .playback
  else none

/-- Two edits have the same target. -/
def Edit.sameTarget (e f : Edit) : Bool := e.port == f.port && e.slot == f.slot

/-- The list with a new edit: appended, or in place of the edit with the same target (R37). -/
def StagingList.withEdit (l : StagingList) (e : Edit) : StagingList :=
  if l.edits.any fun f => f.sameTarget e then
    { l with edits := l.edits.map fun f => if f.sameTarget e then e else f }
  else { l with edits := l.edits ++ [e] }

/-- STAGE: the checks of R36 in their order, then R37. -/
def actStage (p : Port) (fields : List Byte) (s : Part) : Answer :=
  let l := s.list p
  let found := [byteOf l.edits.length]
  match fields with
  | [port, slot, kind, a, b] =>
    match portOf port with
    | none => s.refuse .badPort found
    | some q =>
      let f := (s.port q).profile
      match slotOf slot with
      | none => s.refuse .badSlot found
      | some i =>
        if f.slots ≤ i.val then s.refuse .badSlot found
        else if i.val = f.control then s.refuse .reservedSlot found
        else if s.claims.holder (.slot q i) ≠ some p then s.refuse .notHolder found
        else
          match s.sourceOf kind a b with
          | none => s.refuse .badSource found
          | some src =>
            let e : Edit := ⟨q, i, src⟩
            if l.armed then s.refuse .armed found
            else if 16 ≤ l.edits.length && !(l.edits.any fun g => g.sameTarget e) then
              s.refuse .listFull found
            else
              { s with lists := s.lists.set p (l.withEdit e) : Part }.accept
                [byteOf (l.withEdit e).edits.length]
  | _ => s.refuse .badLength found

/-! ### DISCARD (R39) -/

/-- DISCARD: emptied and disarmed; the reply carries the number of edits removed. -/
def actDiscard (p : Port) (_fields : List Byte) (s : Part) : Answer :=
  (s.clearList p).accept [byteOf (s.list p).edits.length]

/-! ### APPLY (R40, R41) -/

/-- The frame at which an armed list will be applied (R40, R130); 0 when it is not armed. -/
def Part.dueFrame (s : Part) (l : StagingList) : Half :=
  match l.target with
  | none => 0
  | some .next => s.frameNumber + 1
  | some (.frame n) => n

/-- The reply fields of an APPLY: the due frame and the edit count (R40). -/
def Part.applyFields (s : Part) (l : StagingList) : List Byte :=
  be16 (s.dueFrame l) ++ [byteOf l.edits.length]

/-- Arm the list of port `p`. -/
def Part.arm (s : Part) (p : Port) (t : Target) (status : Status) : Answer :=
  let l : StagingList := { s.list p with target := some t }
  let s' := { s with lists := s.lists.set p l }
  ⟨s', status, s'.applyFields l, false⟩

/-- APPLY: the checks of R40, and with AT the target rule of R41. -/
def actApply (p : Port) (fields : List Byte) (s : Part) : Answer :=
  let l := s.list p
  match fields with
  | [mode, hi, lo] =>
    if mode ≠ 0 ∧ mode ≠ 1 then s.refuse .badValue [0, 0, 0]
    else if l.edits.isEmpty then s.refuse .empty [0, 0, 0]
    else if l.armed then s.refuse .armed (s.applyFields l)
    else if mode = 0 then s.arm p .next .ok
    else
      let ahead := (half hi lo - s.frameNumber).toNat
      if 1 ≤ ahead ∧ ahead ≤ 32767 then s.arm p (.frame (half hi lo)) .ok
      else s.arm p .next .late
  | _ => s.refuse .badLength [0, 0, 0]

/-! ### Switchover (R43 to R45) -/

/-- A list is due at the start that reached frame `f` (R43). -/
def StagingList.due (l : StagingList) (f : Half) : Bool :=
  match l.target with
  | none => false
  | some .next => true
  | some (.frame n) => n == f

/-- Write one entry of the map (R4, R44). -/
def writeEntry (m : Bank 4 (Bank 64 Entry)) (e : Edit) (g : Half) : Bank 4 (Bank 64 Entry) :=
  m.modify e.port fun row => row.set e.slot ⟨e.source, g⟩

/-- The ports whose lists are due now. -/
def Part.duePorts (s : Part) : List Port := allPorts.filter fun p => (s.list p).due s.frameNumber

/-- The edits of all due lists, each list in its order (R44). -/
def Part.dueEdits (s : Part) : List Edit := s.duePorts.flatMap fun p => (s.list p).edits

/-- The exchange after the due lists are written: the generation advances once when at least one edit is
written, and every written entry takes it (R5, R44). -/
def Exchange.apply (x : Exchange) (edits : List Edit) : Exchange :=
  if edits.isEmpty then x
  else
    let g := x.generation + 1
    { x with generation := g, map := edits.foldl (fun m e => writeEntry m e g) x.map }

/-- The switchover: every due list is written, emptied and disarmed, and APPLIED is raised for its master
(R43 to R45). -/
def Part.switchover (s : Part) : Part :=
  let x := s.exch.apply s.dueEdits
  let s' := { s with
    exch := x
    lists := .build fun p => if (s.list p).due s.frameNumber then .cleared else s.list p }
  s'.raiseAll (s.duePorts.map fun p =>
    .applied p x.generation s.frameNumber (s.list p).edits.length)

end Sys2Proof.Machine
end

