-- ==== Sys2Proof/Machine/Claims.lean ====
section
/-! DEFINITION. The claim unit: CLAIM, RELEASE, the lapse timers and the lapse (Chapter 2). -/

namespace Sys2Proof.Machine

open Sys2Proof

/-- The 265 claimable objects (R18). -/
def allObjects : List ClaimObject :=
  (allPorts.flatMap fun p => (List.finRange 64).map fun i => .slot p i)
    ++ allChannels.map .channel ++ [.timing]

/-- The holding of a port: the objects whose holder it is (R18). -/
def ClaimUnit.holding (c : ClaimUnit) (p : Port) : List ClaimObject :=
  allObjects.filter fun o => c.holder o == some p

/-- The slots first, first + 1, ... of a port, count of them (R20). -/
def slotRange (q : Port) (first count : Nat) : List ClaimObject :=
  (((List.finRange 64).drop first).take count).map fun i => .slot q i

/-- The objects a CLAIM or RELEASE names, in ascending order, or the status of the first check of R20 and
R21 (BAD_VALUE, BAD_PORT, BAD_SLOT, RESERVED_SLOT, BAD_CHANNEL) that fails. -/
def Part.namedObjects (s : Part) (fields : List Byte) : Except Status (List ClaimObject) :=
  match fields with
  | [] => .error .badLength
  | c :: rest =>
    match classOf c, rest with
    | none, _ => .error .badValue
    | some .slots, [port, first, count] =>
      if count.toNat = 0 ∨ 64 < count.toNat then .error .badValue
      else
        match portOf port with
        | none => .error .badPort
        | some q =>
          let f := (s.port q).profile
          if f.slots ≤ first.toNat ∨ f.slots < first.toNat + count.toNat then .error .badSlot
          else if first.toNat ≤ f.control ∧ f.control < first.toNat + count.toNat then
            .error .reservedSlot
          else .ok (slotRange q first.toNat count.toNat)
    | some .channel, [k] =>
      match channelOf k with
      | none => .error .badChannel
      | some k => .ok [.channel k]
    | some .timing, [] => .ok [.timing]
    | some _, _ => .error .badLength

/-- Give every object of a list the same holder. -/
def ClaimUnit.setHolders (c : ClaimUnit) (os : List ClaimObject) (h : Option Port) : ClaimUnit :=
  os.foldl (fun c o => c.setHolder o h) c

/-! ### CLAIM (R22) -/

/-- An object that a port other than `p` holds. -/
def ClaimUnit.contested (c : ClaimUnit) (p : Port) (o : ClaimObject) : Bool :=
  (c.holder o).isSome && c.holder o != some p

/-- An object that nobody holds. -/
def ClaimUnit.isFree (c : ClaimUnit) (o : ClaimObject) : Bool := (c.holder o).isNone

/-- CLAIM: all named free objects go to the requester, or the request is refused as a whole (R22). -/
def actClaim (p : Port) (fields : List Byte) (s : Part) : Answer :=
  match s.namedObjects fields with
  | .error status => s.refuse status [0, 0, 0, 0, 0xFF]
  | .ok os =>
    match os.find? (s.claims.contested p) with
    | some o => s.refuse .conflict (0 :: o.codes ++ [optPortCode (s.claims.holder o)])
    | none =>
      { s with claims := s.claims.setHolders os (some p) : Part }.accept
        [byteOf (os.filter s.claims.isFree).length, 0, 0, 0, 0xFF]

/-! ### RELEASE (R24, R25) -/

/-- An edit targets one of the objects. -/
def targetsOneOf (os : List ClaimObject) (e : Edit) : Bool := os.contains (.slot e.port e.slot)

/-- RELEASE: all named objects held by the requester become free and the edits that target them go, or the
request is refused as a whole (R24, R25). -/
def actRelease (p : Port) (fields : List Byte) (s : Part) : Answer :=
  match s.namedObjects fields with
  | .error status => s.refuse status [0, 0, 0, 0, 0, 0xFF]
  | .ok os =>
    match os.find? fun o => s.claims.holder o != some p with
    | some o => s.refuse .notHolder (0 :: 0 :: o.codes ++ [optPortCode (s.claims.holder o)])
    | none =>
      let removed := (s.list p).removed (targetsOneOf os)
      let s' := { s with claims := s.claims.setHolders os none }
      (s'.removeEdits p (targetsOneOf os) .released).accept
        [byteOf os.length, byteOf removed, 0, 0, 0, 0xFF]

/-! ### The lapse (R28 to R31) -/

/-- The lapse of port `p`: its holding becomes free, its list is emptied and disarmed, and CLAIMS_FREED is
raised when at least one object was released (R29, R31). -/
def Part.lapsePort (s : Part) (p : Port) : Part :=
  let freed := s.claims.holding p
  let s' := { s with claims := s.claims.setHolders freed none }.clearList p
  if freed.isEmpty then s' else s'.raise (.claimsFreed p freed.length)

/-- The lapse timer of port `p`. -/
def Part.lapseTimer (s : Part) (p : Port) : Nat := s.claims.lapse.get p

/-- Set the lapse timer of port `p`. -/
def Part.setLapseTimer (s : Part) (p : Port) (n : Nat) : Part :=
  { s with claims := { s.claims with lapse := s.claims.lapse.set p n } }

/-- The lapse timer of port `p` at an exchange frame start: out of lock and below 2048 it counts, and on
reaching 2048 the lapse takes place (R28). -/
def Part.countLapse (s : Part) (p : Port) : Part :=
  if s.inLock p then s
  else if s.lapseTimer p < 2048 then
    let s' := s.setLapseTimer p (s.lapseTimer p + 1)
    if s.lapseTimer p + 1 = 2048 then s'.lapsePort p else s'
  else s

/-- The next exchange frame start brings the lapse timer of port `p` to 2048 (R28). -/
def Part.lapseDue (s : Part) (p : Port) : Bool := !s.inLock p && s.lapseTimer p == 2047

/-- The lapse of port `p`, when the exchange frame start now taken is the one at which it falls (R28, R29).
The timer then stands at 2048, and that start's own count leaves it there. -/
def Part.lapseAhead (s : Part) (p : Port) : Part :=
  if s.lapseDue p then (s.setLapseTimer p 2048).lapsePort p else s

/-- Every lapse of the list that falls at this exchange frame start is taken, ahead of its switchover (R30). -/
def Part.lapsesAhead (s : Part) (l : LapseFirst) : Part := (l.port :: l.also).foldl Part.lapseAhead s

end Sys2Proof.Machine
end

