-- ==== Sys2Proof/Machine/Playback.lean ====
section
/-! DEFINITION. The playback unit: channel records, descriptors, the cache, the pending fetches, refills,
the byte taken at each exchange frame start, PLAY and STOP (Chapter 9). -/

namespace Sys2Proof.Machine

open Sys2Proof

/-- The record of channel `k`. -/
def Part.channel (s : Part) (k : Channel) : ChannelRecord := s.play.channels.get k

/-- Replace the record of channel `k`. -/
def Part.setChannel (s : Part) (k : Channel) (c : ChannelRecord) : Part :=
  { s with play := { s.play with channels := s.play.channels.set k c } }

/-- Replace the list of pending fetches. -/
def Part.setFetches (s : Part) (fs : List Fetch) : Part :=
  { s with play := { s.play with fetches := fs } }

/-- Replace the cache. -/
def Part.setCache (s : Part) (cache : List CacheEntry) : Part :=
  { s with play := { s.play with cache := cache } }

/-! ### Directory records (R138, R139) -/

/-- The strapped memory size in bytes (R139); 0 for NONE. -/
def MemSize.bytes : MemSize → Nat
  | .none => 0
  | .mib1 => 0x100000
  | .mib4 => 0x400000
  | .mib16 => 0x1000000

/-- The mode byte of a directory record (R138). -/
def patternModeOf (b : Byte) : Option PatternMode :=
  if b = 0 then some .once else if b = 1 then some .loop else none

/-- The descriptor of a directory record, when the record is valid for the memory size (R138, R139). -/
def descriptorOf (size : MemSize) (record : List Byte) : Option Descriptor :=
  match record with
  | mark :: mode :: filler :: reserved :: s2 :: s1 :: s0 :: l2 :: l1 :: l0 :: o2 :: o1 :: o0 :: _ =>
    match patternModeOf mode with
    | none => none
    | some m =>
      let start := addr s2 s1 s0
      let length := addr l2 l1 l0
      let loopOffset := addr o2 o1 o0
      if mark = 0x5C ∧ reserved = 0 ∧ 1 ≤ length.toNat ∧ loopOffset.toNat < length.toNat
          ∧ start.toNat + length.toNat ≤ size.bytes then
        some ⟨m, filler, start, length, loopOffset⟩
      else none
  | _ => none

/-! ### Halts and priming (R147, R154) -/

/-- A halt: HALTED with a reason and an empty queue; the rest is kept (R154). -/
def ChannelRecord.halt (c : ChannelRecord) (r : HaltReason) : ChannelRecord :=
  { c with state := .halted r, queue := [] }

/-- The channel copies a descriptor and enters PRIMING at the pattern's beginning (R143, R147). -/
def ChannelRecord.prime (c : ChannelRecord) (d : Descriptor) : ChannelRecord :=
  { c with
    state := .priming
    desc := some d
    rest := d.filler
    nextFetch := 0
    position := 0
    queue := [] }

/-- Channel `k` halts and its PLAYBACK notice is raised (R154, R155). -/
def Part.haltWithNotice (s : Part) (k : Channel) (r : HaltReason) : Part :=
  let c := (s.channel k).halt r
  (s.setChannel k c).raise (.playback k (.halted r) c.pattern s.frameNumber)

/-! ### The byte taken at an exchange frame start (R152, R153) -/

/-- The byte the channel yields when it is taken from (R152). -/
def ChannelRecord.yield (c : ChannelRecord) : Byte :=
  match c.state, c.queue with
  | .playing, b :: _ => b
  | _, _ => c.rest

/-- The play position and state after a head byte was yielded (R153). -/
def ChannelRecord.advance (c : ChannelRecord) : ChannelRecord :=
  match c.desc with
  | none => { c with position := c.position + 1 }
  | some d =>
    if c.position + 1 = d.length.toNat then
      match d.mode with
      | .once => { c with position := d.length.toNat, state := .ended }
      | .loop => { c with position := d.loopOffset.toNat }
    else { c with position := c.position + 1 }

/-- The record after its byte was taken: the head leaves the queue and the play position advances, or an
underrun is counted, or nothing happens (R152). -/
def ChannelRecord.taken (c : ChannelRecord) : ChannelRecord :=
  match c.state, c.queue with
  | .playing, _ :: rest => { c with queue := rest }.advance
  | .playing, [] => { c with underruns := c.underruns + 1 }
  | _, _ => c

/-- The taking ends a ONCE pattern (R153). -/
def ChannelRecord.ends (c : ChannelRecord) : Bool :=
  c.state == .playing && c.taken.state == .ended

/-- The byte taking at channel `k`, with the PLAYBACK notice of an ending (R152, R155). -/
def Part.takeByte (s : Part) (k : Channel) : Part :=
  let c := s.channel k
  let s' := s.setChannel k c.taken
  if c.ends then s'.raise (.playback k .ended c.pattern s.frameNumber) else s'

/-! ### Pending fetches (R146) -/

/-- Channel `k` leaves the waiting set of every fetch but one for `except`; a fetch awaiting issue that it
leaves with no waiter goes (R146). -/
def leaveFetches (fs : List Fetch) (k : Channel) (except : Option Pattern) : List Fetch :=
  fs.filterMap fun f =>
    if f.waiters.contains k && some f.pattern != except then
      let f' := { f with waiters := f.waiters.filter fun j => j != k }
      if f'.waiters.isEmpty && f.progress == .awaitingIssue then none else some f'
    else some f

/-- Channel `k` joins the pending fetch for `n`, or a fetch for `n` is created at the tail (R146). -/
def joinFetch (fs : List Fetch) (k : Channel) (n : Pattern) : List Fetch :=
  if fs.any fun f => f.pattern == n then
    fs.map fun f =>
      if f.pattern == n && !f.waiters.contains k then { f with waiters := f.waiters ++ [k] } else f
  else fs ++ [⟨n, [k], .awaitingIssue⟩]

/-! ### PLAY and STOP (R141 to R143) -/

/-- The state field of a PLAY or STOP reply, with the channel (R130). -/
def Part.channelFields (s : Part) (k : Channel) : List Byte := [byteOf k.val, (s.channel k).state.code]

/-- The record at an accepted PLAY of pattern `n`, before the cache is looked up (R143). -/
def ChannelRecord.begin (c : ChannelRecord) (n : Pattern) : ChannelRecord :=
  { c with
    state := .loading
    pattern := some n
    desc := none
    nextFetch := 0
    position := 0
    queue := []
    epoch := c.epoch + 1 }

/-- The descriptor the cache holds for a pattern (R145). -/
def PlaybackUnit.cached (u : PlaybackUnit) (n : Pattern) : Option Descriptor :=
  (u.cache.find? fun e => e.pattern == n).map CacheEntry.desc

/-- The cache with the entry for `n` moved to the front (R145). -/
def touchCache (cache : List CacheEntry) (n : Pattern) : List CacheEntry :=
  (cache.filter fun e => e.pattern == n) ++ cache.filter fun e => e.pattern != n

/-- An accepted PLAY of channel `k` with pattern `n` (R143): PRIMING on a hit, LOADING on a miss. -/
def Part.startPlay (s : Part) (k : Channel) (n : Pattern) : Part :=
  let c := (s.channel k).begin n
  match s.play.cached n with
  | some d =>
    ((s.setChannel k (c.prime d)).setCache (touchCache s.play.cache n)).setFetches
      (leaveFetches s.play.fetches k none)
  | none =>
    (s.setChannel k c).setFetches (joinFetch (leaveFetches s.play.fetches k (some n)) k n)

/-- PLAY: the checks of R141 in their order, then R143. -/
def actPlay (p : Port) (fields : List Byte) (s : Part) : Answer :=
  match fields with
  | [kb, nb] =>
    match channelOf kb with
    | none => s.refuse .badChannel [kb, 0xFF]
    | some k =>
      if s.claims.holder (.channel k) ≠ some p then s.refuse .notHolder (s.channelFields k)
      else
        match patternOf nb with
        | none => s.refuse .badPattern (s.channelFields k)
        | some n =>
          if s.mem.size = .none then s.refuse .noMemory (s.channelFields k)
          else (s.startPlay k n).accept ((s.startPlay k n).channelFields k)
  | _ => s.refuse .badLength [0, 0xFF]

/-- An accepted STOP of channel `k` (R142). -/
def Part.stopChannel (s : Part) (k : Channel) : Part :=
  let c := s.channel k
  (s.setChannel k ({ c with epoch := c.epoch + 1 }.halt .stopped)).setFetches
    (leaveFetches s.play.fetches k none)

/-- STOP (R142). -/
def actStop (p : Port) (fields : List Byte) (s : Part) : Answer :=
  match fields with
  | [kb] =>
    match channelOf kb with
    | none => s.refuse .badChannel [kb, 0xFF]
    | some k =>
      if s.claims.holder (.channel k) ≠ some p then s.refuse .notHolder (s.channelFields k)
      else (s.stopChannel k).accept ((s.stopChannel k).channelFields k)
  | _ => s.refuse .badLength [0, 0xFF]

/-! ### Fetch completion (R145, R147) -/

/-- The cache after a descriptor for `n` is installed: the least recently used of four goes (R145). -/
def installed (cache : List CacheEntry) (n : Pattern) (d : Descriptor) : List CacheEntry :=
  ⟨n, d⟩ :: cache.take 3

/-- The channels waiting on the fetch for `n`, in ascending order. -/
def PlaybackUnit.waitersOf (u : PlaybackUnit) (n : Pattern) : List Channel :=
  allChannels.filter fun k => u.fetches.any fun f => f.pattern == n && f.waiters.contains k

/-- The completion of the descriptor fetch for `n` (R147). -/
def Part.fetchCompleted (s : Part) (n : Pattern) (record : List Byte) : Part :=
  let waiting := s.play.waitersOf n
  let s' := s.setFetches (s.play.fetches.filter fun f => f.pattern != n)
  match descriptorOf s.mem.size record with
  | some d =>
    waiting.foldl (fun s k => s.setChannel k ((s.channel k).prime d))
      (s'.setCache (installed s.play.cache n d))
  | none => waiting.foldl (fun s k => s.haltWithNotice k .badPattern) s'

/-! ### Refills (R148 to R151) -/

/-- A refill request stands (R148). -/
def ChannelRecord.wantsRefill (c : ChannelRecord) : Bool :=
  (c.state == .priming || c.state == .playing) && c.queue.length + c.inFlight ≤ 16 &&
    match c.desc with
    | none => false
    | some d =>
      match d.mode with
      | .loop => true
      | .once => c.nextFetch < d.length.toNat

/-- The address of the next refill burst (R149). -/
def refillAddress (c : ChannelRecord) (d : Descriptor) : Addr := d.start + BitVec.ofNat 24 c.nextFetch

/-- The size of the next refill burst: at most 16, to the pattern's end, to the next page (R149). -/
def refillSize (c : ChannelRecord) (d : Descriptor) : Nat :=
  min (min 16 (d.length.toNat - c.nextFetch)) (256 - (refillAddress c d).toNat % 256)

/-- The next fetch offset after a burst of `size` bytes: it goes back to the loop offset at the end of a
LOOP pattern (R149). -/
def nextOffset (c : ChannelRecord) (d : Descriptor) (size : Nat) : Nat :=
  match d.mode with
  | .once => c.nextFetch + size
  | .loop =>
    if c.nextFetch + size = d.length.toNat then d.loopOffset.toNat else c.nextFetch + size

/-- The record at the issue of its refill burst (R149). -/
def ChannelRecord.issued (c : ChannelRecord) (d : Descriptor) : ChannelRecord :=
  { c with inFlight := refillSize c d, nextFetch := nextOffset c d (refillSize c d) }

/-- The channel has been brought to its priming level (R151). -/
def ChannelRecord.primedEnough (c : ChannelRecord) : Bool :=
  16 ≤ c.queue.length ||
    match c.desc with
    | some d => d.mode == .once && d.length.toNat < 16 && c.nextFetch == d.length.toNat
    | none => false

/-- The record after the completion of a refill burst of epoch `e`: delivered when the epoch is current and
the channel is PRIMING or PLAYING, else discarded; a delivery may end priming (R150, R151). -/
def ChannelRecord.refilled (c : ChannelRecord) (e : Half) (bytes : List Byte) : ChannelRecord :=
  let c0 := { c with inFlight := 0 }
  if e = c.epoch ∧ (c.state = .priming ∨ c.state = .playing) then
    let c1 := { c0 with queue := c0.queue ++ bytes }
    if c1.state = .priming ∧ c1.primedEnough then { c1 with state := .playing } else c1
  else c0

end Sys2Proof.Machine
end

