-- ==== Sys2Proof/Machine/Catalogue.lean ====
section
/-! DEFINITION. The requests that have no other home: the five reads and NOTICE_MASK (8.6), and the values a
refusal's fields carry (R130). -/

namespace Sys2Proof.Machine

open Sys2Proof

/-- `n` zero bytes. -/
def zeros (n : Nat) : List Byte := List.replicate n 0

/-- The list state of PROBE (R125, R130). -/
def StagingList.code (l : StagingList) : Byte :=
  match l.target with
  | none => 0
  | some .next => 1
  | some (.frame _) => 2

/-- PROBE (R132): part code, revision, requester, counter, generation, held-object count, list. -/
def actProbe (p : Port) (_fields : List Byte) (s : Part) : Answer :=
  let l := s.list p
  s.accept <|
    [0x04, 0x24, 0x01, byteOf p.val] ++ be16 s.exch.counter ++ be16 s.exch.generation
      ++ be16Nat (s.claims.holding p).length
      ++ [byteOf l.edits.length, l.code] ++ be16 (s.dueFrame l)

/-- The refusal fields of READ_ROUTE: every byte 00H, holder FFH (R130). -/
def routeRefusal : List Byte := zeros 7 ++ [0xFF]

/-- READ_ROUTE (R133): the slot is tested against 63, not against the slot count. -/
def actReadRoute (_p : Port) (fields : List Byte) (s : Part) : Answer :=
  match fields with
  | [port, slot] =>
    match portOf port with
    | none => s.refuse .badPort routeRefusal
    | some q =>
      match slotOf slot with
      | none => s.refuse .badSlot routeRefusal
      | some i =>
        let e := s.entry q i
        s.accept <|
          [byteOf q.val, byteOf i.val] ++ e.source.codes ++ be16 e.setGen
            ++ [optPortCode (s.claims.holder (.slot q i))]
  | _ => s.refuse .badLength routeRefusal

/-- The nine counters in the order of READ_PORT (R134). -/
def Counters.bytes (c : Counters) : List Byte :=
  [c.badFrames, c.lockLosses, c.inRepeats, c.inDrops, c.outRepeats, c.outDrops, c.checkErrors,
    c.framingErrors, c.intakeOverruns]

/-- The level and primed flag of a store (R67, R134). -/
def Store.codes (st : Store) : List Byte := [byteOf st.queue.length, flagCode st.primed]

/-- The lock state that READ_PORT answers: as it stands (R105), with the one exception of R134: a port that has
never locked since device reset reads DARK. DEDUCED, unsafe: the catalogue says that READ_PORT is specified there
in full, so its R134 is read as the exception to R105 (log 36). -/
def PortUnit.shownLock (u : PortUnit) : LockState :=
  if u.hasLocked then u.lock else .dark

/-- READ_PORT (R105, R134). -/
def actReadPort (_p : Port) (fields : List Byte) (s : Part) : Answer :=
  match fields with
  | [port] =>
    match portOf port with
    | none => s.refuse .badPort (zeros 23)
    | some q =>
      let u := s.port q
      let f := u.profile
      s.accept <|
        [byteOf q.val, f.slotCount.code, f.controlSlot.code, f.fill, f.depth.code]
          ++ actionCodes u.action ++ [u.shownLock.code, u.shownLock.badCode]
          ++ (s.inStores.get q).codes ++ (s.outStores.get q).codes ++ u.counters.bytes
  | _ => s.refuse .badLength (zeros 23)

/-- Four port bytes: the listed ports, then FFH (R135). -/
def listBytes (ports : List Port) : List Byte :=
  ((ports.map fun q : Port => byteOf q.val) ++ List.replicate 4 0xFF).take 4

/-- READ_REFERENCE (R86, R135). -/
def actReadReference (_p : Port) (_fields : List Byte) (s : Part) : Answer :=
  let r := s.ref
  s.accept <|
    [r.mode.code, optPortCode r.tracked, optPortCode r.candidate,
        if r.candidate.isSome then byteOf r.count else 0]
      ++ be16Nat (r.held.getD 0) ++ [byteOf r.list.length] ++ listBytes r.list
      ++ [flagCode r.revertive, optPortCode s.claims.timing]
      ++ be16 s.exch.counter ++ be16 s.exch.generation

/-- The play position READ_CHANNEL returns: 000000H when there is no descriptor copy (R136). -/
def ChannelRecord.shownPosition (c : ChannelRecord) : Nat := if c.desc.isSome then c.position else 0

/-- READ_CHANNEL (R136, R156). -/
def actReadChannel (_p : Port) (fields : List Byte) (s : Part) : Answer :=
  match fields with
  | [kb] =>
    match channelOf kb with
    | none => s.refuse .badChannel (zeros 10)
    | some k =>
      let c := s.channel k
      s.accept <|
        [byteOf k.val, c.state.code, c.state.haltCode, optPortCode (s.claims.holder (.channel k)),
            optPatternCode c.pattern] ++ be24Nat c.shownPosition
          ++ [byteOf c.queue.length, c.underruns]
  | _ => s.refuse .badLength (zeros 10)

/-- The mask as the reply of NOTICE_MASK carries it (R130). -/
def Part.maskFields (s : Part) (p : Port) : List Byte := [(s.chan p).mask.setWidth 8]

/-- NOTICE_MASK (R137): refused when any of bits 5 to 7 is set, else the requester's mask is replaced. -/
def actNoticeMask (p : Port) (fields : List Byte) (s : Part) : Answer :=
  match fields with
  | [mask] =>
    if 32 ≤ mask.toNat then s.refuse .badValue (s.maskFields p)
    else
      let s' := s.modifyChan p fun c => { c with mask := mask.setWidth 5 }
      s'.accept (s'.maskFields p)
  | _ => s.refuse .badLength (s.maskFields p)

end Sys2Proof.Machine
end

