-- ==== Sys2Proof/Machine/Reference.lean ====
section
/-! DEFINITION. The reference unit at an exchange frame start: what is due, the held-period measurement,
selection, qualification and the switch (5.1 to 5.4, 5.6). The loss of the reference is in Exchange.lean,
since it may take an exchange frame start at once. -/

namespace Sys2Proof.Machine

open Sys2Proof

/-- The nominal exchange frame in oscillator periods (R70). -/
def nominalPeriod : Nat := 2048

/-- The realignment guard, 62.5 microseconds, in oscillator periods (R76). -/
def realignGuard : Nat := 1024

/-- Qualification ends at this count (R75). -/
def qualifyEnd : Nat := 64

/-- The period in use by the local frame timer (R70). -/
def RefUnit.periodInUse (r : RefUnit) : Nat :=
  match r.mode with
  | .free => nominalPeriod
  | .qualify | .holdover | .tracking => r.held.getD nominalPeriod

/-- HOLDOVER when a held period is present, FREE when not (R68, R74, R78). -/
def RefUnit.fallback (r : RefUnit) : RefMode := if r.held.isSome then .holdover else .free

/-- An exchange frame start is to be taken at this cause now (R70, R76). -/
def Part.startDue (s : Part) : StartCause → Bool
  | .localTimer => s.ref.mode != .tracking && s.ref.periodInUse ≤ s.ref.timer
  | .frameStart q =>
    s.ref.mode == .tracking && s.ref.tracked == some q && s.inLock q &&
      (!s.ref.realigning || realignGuard ≤ s.ref.timer)

/-- Change the reference unit. -/
def Part.setRef (s : Part) (r : RefUnit) : Part := { s with ref := r }

/-- Raise a REFERENCE notice with the record as it stands (R84). -/
def Part.raiseReference (s : Part) (reason : RefReason) : Part :=
  s.raise (.reference s.ref.mode s.ref.tracked s.ref.candidate reason s.ref.held s.frameNumber)

/-! ### At an exchange frame start -/

/-- The start is a frame start of the tracked port whose previous start was one too (R72). -/
def RefUnit.measures (r : RefUnit) (cause : StartCause) : Bool :=
  match cause with
  | .localTimer => false
  | .frameStart q =>
    r.mode == .tracking && r.tracked == some q && r.lastStart == .frameStart q && !r.realigning

/-- The held period after a start: an accepted measurement replaces it (R72). -/
def RefUnit.heldAfter (r : RefUnit) (cause : StartCause) : Option Nat :=
  if r.measures cause && 2028 ≤ r.timer && r.timer ≤ 2068 then some r.timer else r.held

/-- The record as every exchange frame start leaves it before selection: the measurement is made, the timer
is set to 0, and a realignment in progress ends (R71, R72, R76). -/
def RefUnit.started (r : RefUnit) (cause : StartCause) : RefUnit :=
  { r with held := r.heldAfter cause, timer := 0, lastStart := cause, realigning := false }

/-- The first port of a list that is LOCKED (R73). -/
def Part.firstLocked (s : Part) (ports : List Port) : Option Port :=
  ports.find? fun p => (s.port p).lock == .locked

/-- The port selection finds: the first LOCKED listed port; in TRACKING only with the revertive flag ON and
only ahead of the tracked port (R73, R79). -/
def Part.found (s : Part) : Option Port :=
  match s.ref.mode with
  | .tracking =>
    if s.ref.revertive then
      s.firstLocked (s.ref.list.takeWhile fun p => s.ref.tracked != some p)
    else none
  | .free | .qualify | .holdover => s.firstLocked s.ref.list

/-- The switch to port `h`: TRACKING, no candidate, a realignment begins, TRACK high, a REFERENCE notice
(R75, R79). -/
def Part.switchTo (s : Part) (h : Port) : Part :=
  (s.setRef { s.ref with
    mode := .tracking
    tracked := some h
    candidate := none
    count := 0
    realigning := true
    track := true }).raiseReference .qualified

/-- Port `h` becomes the candidate with count 0; in FREE and HOLDOVER the mode becomes QUALIFY, with a
notice (R73, R79). -/
def Part.choose (s : Part) (h : Port) : Part :=
  match s.ref.mode with
  | .free | .holdover =>
    (s.setRef { s.ref with mode := .qualify, candidate := some h, count := 0 }).raiseReference .chosen
  | .qualify | .tracking => s.setRef { s.ref with candidate := some h, count := 0 }

/-- Selection at an exchange frame start (R73, R79). -/
def Part.select (s : Part) : Part :=
  match s.found with
  | none =>
    match s.ref.mode with
    | .tracking =>
      if s.ref.revertive then s.setRef { s.ref with candidate := none, count := 0 } else s
    | .free | .qualify | .holdover => s
  | some h =>
    if s.ref.candidate = some h then
      if s.ref.count + 1 = qualifyEnd then s.switchTo h
      else s.setRef { s.ref with count := s.ref.count + 1 }
    else s.choose h

/-- The reference unit's share of an exchange frame start (R70 to R73, R75, R76, R79). DESIGN CHOICE (log 35):
the measurement is made before selection, so the QUALIFIED notice of a revertive switch carries a held period
that includes the measurement of that same start (R84 gives no order of the two). -/
def Part.referenceShare (s : Part) (cause : StartCause) : Part :=
  (s.setRef (s.ref.started cause)).select

/-- The start now due would bring the candidate's count to 64 in this mode (R75, R79). -/
def Part.reachesEnd (s : Part) (mode : RefMode) : Bool :=
  s.ref.mode == mode && s.ref.candidate.isSome && s.found == s.ref.candidate &&
    s.ref.count + 1 == qualifyEnd

end Sys2Proof.Machine
end

