-- ==== Sys2Proof/Machine/Exchange.lean ====
section
/-! DEFINITION. The exchange frame start (R7): what the exchange takes in, the switchover, the assembly of
the outbound frames, the lapse timers and the reference unit's share; the commands that are such a start;
and the loss of the reference, which may take one at once (R78). -/

namespace Sys2Proof.Machine

open Sys2Proof

/-! ### Inputs of the assembly (R8, R9) -/

/-- What each inbound store yields at this start (R8). -/
def Part.yields (s : Part) : Bank 4 (Option Frame) := .build fun p => (s.inStores.get p).yield

/-- The byte each playback channel yields at this start (R9). -/
def Part.playbackBytes (s : Part) : Bank 8 Byte := .build fun k => (s.channel k).yield

/-- The counter advances (R6). -/
def Part.advanceCounter (s : Part) : Part :=
  { s with exch := { s.exch with counter := s.exch.counter + 1 } }

/-- Every inbound store is read once (R8). -/
def Part.readStores (s : Part) : Part := allPorts.foldl Part.readInbound s

/-- One byte is taken from every channel (R9). -/
def Part.takeBytes (s : Part) : Part := allChannels.foldl Part.takeByte s

/-! ### Assembly (R10 to R14) -/

/-- The fill byte of port `p` as its profile has it (R13). -/
def Part.fill (s : Part) (p : Port) : Byte := (s.port p).profile.fill

/-- The byte of slot `i` of the frame assembled for port `p`: the fill byte at the control slot (R12), else
what the entry's source gives (R11). -/
def Part.slotByte (s : Part) (yields : Bank 4 (Option Frame)) (bytes : Bank 8 Byte) (p : Port)
    (i : Slot) : Byte :=
  if i.val = (s.port p).profile.control then s.fill p
  else
    match (s.entry p i).source with
    | .idle => s.fill p
    | .constant v => v
    | .inbound q t => ((yields.get q).bind fun f => f[t.val]?).getD (s.fill q)
    | .playback k => bytes.get k

/-- The frame assembled for port `p`: one byte for every slot of its slot count (R14). -/
def Part.assembled (s : Part) (yields : Bank 4 (Option Frame)) (bytes : Bank 8 Byte) (p : Port) : Frame :=
  ((List.finRange 64).take (s.port p).profile.slots).map fun i => s.slotByte yields bytes p i

/-- One frame is assembled for every port in lock, from one state of the map, and written into its outbound
store (R10, R14, R15). -/
def Part.writeFrames (s : Part) (yields : Bank 4 (Option Frame)) (bytes : Bank 8 Byte) : Part :=
  allPorts.foldl
    (fun d p => if s.inLock p then d.writeOutbound p (s.assembled yields bytes p) else d) s

/-- Every lapse timer is counted (R28). -/
def Part.countLapses (s : Part) : Part := allPorts.foldl Part.countLapse s

/-! ### The exchange frame start (R7) -/

/-- An exchange frame start, in the order of R7: the counter, the stores, the playback bytes, the
switchover, the assembly; then the lapse timers (R28) and the reference unit (R70). The yields and bytes
are those of this start, and the map is that after the switchover. A lapse of this start follows its
switchover (R30 lets either be first; log 5). -/
def Part.frameStart (s : Part) (cause : StartCause) : Part :=
  let s1 := (s.advanceCounter.readStores.takeBytes).switchover
  ((s1.writeFrames s.yields s.playbackBytes).countLapses).referenceShare cause

/-- EXCHANGE_FRAME_START: taken when one is due at its cause (R70; log 4). -/
def execExchangeFrameStart (cause : StartCause) (s : State) : Host.Outcome State Fault Refusal :=
  s.answer <| s.part.whenRunning fun d => if d.startDue cause then d.frameStart cause else d

/-- QUALIFIED: the exchange frame start at which the candidate's count reaches 64 in QUALIFY, at which the
unit switches to it (R75; log 6). -/
def execQualified (s : State) : Host.Outcome State Fault Refusal :=
  s.answer <| s.part.whenRunning fun d =>
    if d.reachesEnd .qualify && d.startDue .localTimer then d.frameStart .localTimer else d

/-- The frame start of the tracked port, if there is one. -/
def RefUnit.trackedStart (r : RefUnit) : StartCause :=
  match r.tracked with
  | some q => .frameStart q
  | none => .localTimer

/-- REVERTIVE_SWITCH: the exchange frame start in revertive TRACKING at which the background candidate's
count reaches 64, at which the unit switches to it (R79; log 6). -/
def execRevertiveSwitch (s : State) : Host.Outcome State Fault Refusal :=
  s.answer <| s.part.whenRunning fun d =>
    if d.reachesEnd .tracking && d.startDue d.ref.trackedStart then
      d.frameStart d.ref.trackedStart
    else d

/-- LAPSE: the exchange frame start at which the timer of the named port reaches 2048, taken with the lapse
ahead of the switchover (R28, R30); EXCHANGE_FRAME_START takes the switchover first (log 5). Only an exchange
frame start that is due counts the timer. -/
def execLapse (l : LapseFirst) (s : State) : Host.Outcome State Fault Refusal :=
  s.answer <| s.part.whenRunning fun d =>
    if d.lapseDue l.port && d.startDue d.ref.trackedStart then
      (d.lapsesAhead l).frameStart d.ref.trackedStart
    else d

/-! ### Loss of the reference and of a candidate (R74, R78) -/

/-- The record after the loss of the reference (R78). -/
def RefUnit.lost (r : RefUnit) : RefUnit :=
  { r with
    mode := r.fallback
    tracked := none
    candidate := none
    count := 0
    realigning := false
    track := false }

/-- The loss of the reference: the record and TRACK change and REFERENCE is raised; when the local frame
timer has already reached the period in use, the next exchange frame start is taken at once (R78). -/
def Part.loseReference (s : Part) (reason : RefReason) : Part :=
  let s' := (s.setRef s.ref.lost).raiseReference reason
  if s'.startDue .localTimer then s'.frameStart .localTimer else s'

/-- The candidate is cleared; in QUALIFY the mode becomes HOLDOVER or FREE, with a notice (R74, R82). -/
def Part.clearCandidate (s : Part) (reason : RefReason) : Part :=
  match s.ref.mode with
  | .qualify =>
    (s.setRef { s.ref with mode := s.ref.fallback, candidate := none, count := 0 }).raiseReference reason
  | .free | .tracking | .holdover => s.setRef { s.ref with candidate := none, count := 0 }

/-- A lock change of port `p` reaches the reference unit (R74). -/
def Part.lockChanged (s : Part) (p : Port) (before after : LockState) : Part :=
  if s.ref.candidate = some p ∧ before = .locked ∧ after ≠ .locked then s.clearCandidate .candidateLost
  else if s.ref.mode = .tracking ∧ s.ref.tracked = some p ∧ before.inLock ∧ !after.inLock then
    s.loseReference .referenceLost
  else s

/-! ### SET_REFERENCES (R81, R82) -/

/-- An accepted SET_REFERENCES: the list and the flag are replaced, and the record is acted on at once
(R82). -/
def Part.setReferences (s : Part) (list : List Port) (revertive : Bool) : Part :=
  let s' := s.setRef { s.ref with list := list, revertive := revertive }
  let listed : Option Port → Bool := fun o => o.all fun q => list.contains q
  match s.ref.mode with
  | .tracking =>
    if !listed s.ref.tracked then s'.loseReference .listChanged
    else if s.ref.candidate.isSome && (!listed s.ref.candidate || !revertive) then
      s'.clearCandidate .listChanged
    else s'
  | .qualify => if !listed s.ref.candidate then s'.clearCandidate .listChanged else s'
  | .free | .holdover => s'

/-- The reply fields of SET_REFERENCES: the mode and the tracked port as they stand (R130). -/
def Part.referenceFields (s : Part) : List Byte := [s.ref.mode.code, optPortCode s.ref.tracked]

/-- SET_REFERENCES: the checks of R81, then R82. The reply's fields are those after the request, an exchange
frame start that a loss takes at once included (log 20). -/
def actSetReferences (p : Port) (fields : List Byte) (s : Part) : Answer :=
  match fields with
  | flag :: ports =>
    if s.claims.holder .timing ≠ some p then s.refuse .notHolder s.referenceFields
    else
      match revertiveOf flag, portsOf ports with
      | some revertive, some list =>
        if list.Nodup then
          (s.setReferences list revertive).accept (s.setReferences list revertive).referenceFields
        else s.refuse .badValue s.referenceFields
      | _, _ => s.refuse .badValue s.referenceFields
  | [] => s.refuse .badLength s.referenceFields

end Sys2Proof.Machine
end

