-- ==== Sys2Proof/Machine/Profiles.lean ====
section
/-! DEFINITION. SET_PROFILE and RESTART: their checks, what they record, and the effect of a pending action
(6.7, 6.8, R16, R32, R48, R49). -/

namespace Sys2Proof.Machine

open Sys2Proof

/-! ### SET_PROFILE (R101, R102) -/

/-- A change is structural when the slot count or the control slot setting differs from the one in effect
(R101). -/
def Profile.structural (f : Profile) (n : SlotCount) (c : ControlSlot) : Bool :=
  f.slotCount != n || f.controlSlot != c

/-- A source names an affected inbound slot of port `p` (R16, R49, R101). -/
def Source.namesAffected (p : Port) (n : SlotCount) (c : ControlSlot) : Source → Bool
  | .inbound q t => q == p && affected n c t.val
  | .idle | .constant _ | .playback _ => false

/-- Something depends on an affected slot of port `p`: a holding, an entry of the map, or a staged edit
(R101). -/
def Part.dependent (s : Part) (p : Port) (n : SlotCount) (c : ControlSlot) : Bool :=
  ((List.finRange 64).any fun i => affected n c i.val && (s.claims.holder (.slot p i)).isSome) ||
  (allPorts.any fun q => (List.finRange 64).any fun i =>
    (s.entry q i).source.namesAffected p n c) ||
  (allPorts.any fun m => (s.list m).edits.any fun e => e.source.namesAffected p n c)

/-- The port with a fill byte and a prime depth in its profile, and a structural change pending (R102). -/
def PortUnit.withProfile (u : PortUnit) (n : SlotCount) (c : ControlSlot) (fill : Byte)
    (depth : PrimeDepth) : PortUnit :=
  { u with
    profile := { u.profile with fill := fill, depth := depth }
    action := if u.profile.structural n c then some (.profile n c) else u.action }

/-- SET_PROFILE: the checks of R101, then R102. A structural change is recorded and its reply marked. -/
def actSetProfile (p : Port) (fields : List Byte) (s : Part) : Answer :=
  match fields with
  | [countByte, controlByte, fill, depthByte] =>
    match slotCountOf countByte, controlSlotOf controlByte, depthOf depthByte with
    | some n, some c, some depth =>
      let u := s.port p
      if u.action.isSome then s.refuse .armed []
      else if u.profile.structural n c && s.dependent p n c then s.refuse .dependent []
      else
        ⟨s.modifyPort p fun u => u.withProfile n c fill depth, .ok, [], u.profile.structural n c⟩
    | _, _, _ => s.refuse .badValue []
  | _ => s.refuse .badLength []

/-! ### RESTART (R104) -/

/-- RESTART: recorded as the pending action, its reply marked (R104, R118). -/
def actRestart (p : Port) (_fields : List Byte) (s : Part) : Answer :=
  if (s.port p).action.isSome then s.refuse .armed []
  else ⟨s.modifyPort p fun u => { u with action := some .restart }, .ok, [], true⟩

/-! ### The effect of a pending action (R16, R32, R48, R49, R103, R104) -/

/-- An entry at a profile change of port `p`: an affected entry of `p`, or an entry that names an affected
inbound slot of `p`, becomes IDLE with the current generation (R16). -/
def resetEntry (p : Port) (n : SlotCount) (c : ControlSlot) (g : Half) (q : Port) (i : Slot)
    (e : Entry) : Entry :=
  if (q == p && affected n c i.val && e.source != .idle) || e.source.namesAffected p n c then ⟨.idle, g⟩
  else e

/-- The map after a profile change of port `p` takes effect (R16). -/
def Exchange.resetAffected (x : Exchange) (p : Port) (n : SlotCount) (c : ControlSlot) : Exchange :=
  { x with map := .build fun q => .build fun i =>
      resetEntry p n c x.generation q i ((x.map.get q).get i) }

/-- The claim table after a profile change of port `p` takes effect: no affected slot is held (R32). -/
def ClaimUnit.endAffected (t : ClaimUnit) (p : Port) (n : SlotCount) (c : ControlSlot) : ClaimUnit :=
  { t with slots := t.slots.modify p fun row =>
      .build fun i => if affected n c i.val then none else row.get i }

/-- An edit of master `m` whose target is an affected slot of port `p` that `m` held (R32). -/
def losesTarget (t : ClaimUnit) (m p : Port) (n : SlotCount) (c : ControlSlot) (e : Edit) : Bool :=
  e.port == p && affected n c e.slot.val && t.holder (.slot e.port e.slot) == some m

/-- The reason of an APPLY_CANCELLED at a profile change: RELEASED when an edit went because its target's
holding ended, PROFILE otherwise (R46). -/
def cancelReason (t : ClaimUnit) (m p : Port) (n : SlotCount) (c : ControlSlot) (l : StagingList) :
    CancelReason :=
  if l.edits.any (losesTarget t m p n c) then .released else .profile

/-- The staging list of master `m` at a profile change of port `p`, by the claim table before it
(R32, R49). -/
def Part.settleEdits (t : ClaimUnit) (p : Port) (n : SlotCount) (c : ControlSlot) (s : Part) (m : Port) :
    Part :=
  s.removeEdits m (fun e => losesTarget t m p n c e || e.source.namesAffected p n c)
    (cancelReason t m p n c (s.list m))

/-- A structural change of port `p` takes effect: the profile is replaced, and entries, holdings and edits
that touch affected slots are settled (R16, R32, R49, R103). -/
def Part.profileEffect (s : Part) (p : Port) (n : SlotCount) (c : ControlSlot) : Part :=
  let s1 := s.modifyPort p fun u =>
    { u with profile := { u.profile with slotCount := n, controlSlot := c }, action := none }
  let s2 := { s1 with
    exch := s1.exch.resetAffected p n c
    claims := s1.claims.endAffected p n c }
  allPorts.foldl (Part.settleEdits s.claims p n c) s2

/-- The pending action of port `p`, if there is one, takes effect (R97, R103, R104, R48). -/
def Part.actionEffect (s : Part) (p : Port) : Part :=
  match (s.port p).action with
  | none => s
  | some (.profile n c) => s.profileEffect p n c
  | some .restart => (s.modifyPort p fun u => { u with action := none }).clearList p

end Sys2Proof.Machine
end

