-- ==== Sys2Proof/Machine/Requests.lean ====
section
/-! DEFINITION. The intake queue and the taking of requests (R109 to R113, R126, R127), and the request
commands: each is its message, framed and checked, completing at the channel of its master (log 7). -/

namespace Sys2Proof.Machine

open Sys2Proof

/-! ### One request (R111) -/

/-- The request acts at the block that owns the state it names (R111). -/
def act (k : RequestKind) (p : Port) (fields : List Byte) (s : Part) : Answer :=
  match k with
  | .probe => actProbe p fields s
  | .claim => actClaim p fields s
  | .release => actRelease p fields s
  | .stage => actStage p fields s
  | .discard => actDiscard p fields s
  | .apply => actApply p fields s
  | .readRoute => actReadRoute p fields s
  | .readPort => actReadPort p fields s
  | .readReference => actReadReference p fields s
  | .readChannel => actReadChannel p fields s
  | .setReferences => actSetReferences p fields s
  | .setProfile => actSetProfile p fields s
  | .restart => actRestart p fields s
  | .play => actPlay p fields s
  | .stop => actStop p fields s
  | .noticeMask => actNoticeMask p fields s

/-- The fields of a BAD_LENGTH reply: the refusal values of the kind (R127, R130). -/
def refusalFields (k : RequestKind) (p : Port) (s : Part) : List Byte :=
  match k with
  | .probe => zeros 14
  | .claim => [0, 0, 0, 0, 0xFF]
  | .release => [0, 0, 0, 0, 0, 0xFF]
  | .stage => [byteOf (s.list p).edits.length]
  | .discard => [0]
  | .apply => [0, 0, 0]
  | .readRoute => routeRefusal
  | .readPort => zeros 23
  | .readReference => zeros 17
  | .readChannel => zeros 10
  | .setReferences => s.referenceFields
  | .setProfile | .restart => []
  | .play | .stop => [0, 0xFF]
  | .noticeMask => s.maskFields p

/-- A reply joins the reply queue at its tail (R111, R113). -/
def Part.pushReply (s : Part) (p : Port) (r : Reply) : Part :=
  s.modifyChan p fun c => { c with replies := c.replies ++ [r] }

/-- The reply kind of a request kind: 80H more (R123). -/
def replyKind (k : RequestKind) : Byte := k.code + 0x80

/-- A known request is taken: refused with BAD_LENGTH, or acted on by its owner; its reply joins
(R111, R127). -/
def Part.answerKnown (s : Part) (p : Port) (k : RequestKind) (tag : Byte) (fields : List Byte) : Part :=
  let a := if lengthFits k fields then act k p fields s else s.refuse .badLength (refusalFields k p s)
  a.part.pushReply p ⟨replyKind k, tag, a.status, a.fields, a.marked⟩

/-- A message is taken: a request of a known kind, or one answered UNKNOWN_KIND (R111, R126). -/
def Part.answerMessage (s : Part) (p : Port) (body : List Byte) : Part :=
  match body with
  | kind :: tag :: fields =>
    match requestKind kind with
    | some k => s.answerKnown p k tag fields
    | none => s.pushReply p ⟨0x80, tag, .unknownKind, [kind], false⟩
  | _ => s

/-! ### Taking (R109 to R111) -/

/-- Taking: while a message waits and a place in the reply queue is free, the oldest message is taken; the
condition is tested again after each, at most `n` times (R111). -/
def Part.takeWaiting (s : Part) (p : Port) : Nat → Part
  | 0 => s
  | n + 1 =>
    match (s.chan p).intake with
    | [] => s
    | body :: rest =>
      if (s.chan p).replies.length < 4 then
        ((s.modifyChan p fun c => { c with intake := rest }).answerMessage p body).takeWaiting p n
      else s

/-- The most messages an intake queue holds (R109). -/
def intakeSize : Nat := 2

/-- A complete message joins the intake queue and taking is tried; at a full queue it is discarded and the
overrun counter and tally rise (R109). -/
def Part.messageComplete (s : Part) (p : Port) (body : List Byte) : Part :=
  if (s.chan p).intake.length < intakeSize then
    (s.modifyChan p fun c => { c with intake := c.intake ++ [body] }).takeWaiting p intakeSize
  else
    (s.count p fun c => { c with intakeOverruns := c.intakeOverruns + 1 }).modifyChan p fun c =>
      { c with overrun := saturatingNext c.overrun }

/-! ### The request commands -/

/-- A request of the master on port `p` completes at its channel; out of lock nothing its master sends
reaches the part (R98). -/
def State.submit (s : State) (p : Port) (body : List Byte) : Host.Outcome State Fault Refusal :=
  s.answer <| s.part.whenRunning fun d => if d.inLock p then d.messageComplete p body else d

/-- PROBE (R132). -/
def execProbe (p : Port) (tag : Byte) (fields : List Byte) (s : State) :
    Host.Outcome State Fault Refusal :=
  s.submit p (RequestKind.probe.code :: tag :: fields)

/-- CLAIM (R20 to R23). -/
def execClaim (p : Port) (tag : Byte) (fields : List Byte) (s : State) :
    Host.Outcome State Fault Refusal :=
  s.submit p (RequestKind.claim.code :: tag :: fields)

/-- RELEASE (R24, R25). -/
def execRelease (p : Port) (tag : Byte) (fields : List Byte) (s : State) :
    Host.Outcome State Fault Refusal :=
  s.submit p (RequestKind.release.code :: tag :: fields)

/-- STAGE (R36 to R38). -/
def execStage (p : Port) (tag : Byte) (fields : List Byte) (s : State) :
    Host.Outcome State Fault Refusal :=
  s.submit p (RequestKind.stage.code :: tag :: fields)

/-- DISCARD (R39). -/
def execDiscard (p : Port) (tag : Byte) (fields : List Byte) (s : State) :
    Host.Outcome State Fault Refusal :=
  s.submit p (RequestKind.discard.code :: tag :: fields)

/-- APPLY (R40, R41). -/
def execApply (p : Port) (tag : Byte) (fields : List Byte) (s : State) :
    Host.Outcome State Fault Refusal :=
  s.submit p (RequestKind.apply.code :: tag :: fields)

/-- READ_ROUTE (R133). -/
def execReadRoute (p : Port) (tag : Byte) (fields : List Byte) (s : State) :
    Host.Outcome State Fault Refusal :=
  s.submit p (RequestKind.readRoute.code :: tag :: fields)

/-- READ_PORT (R134). -/
def execReadPort (p : Port) (tag : Byte) (fields : List Byte) (s : State) :
    Host.Outcome State Fault Refusal :=
  s.submit p (RequestKind.readPort.code :: tag :: fields)

/-- READ_REFERENCE (R135). -/
def execReadReference (p : Port) (tag : Byte) (fields : List Byte) (s : State) :
    Host.Outcome State Fault Refusal :=
  s.submit p (RequestKind.readReference.code :: tag :: fields)

/-- READ_CHANNEL (R136). -/
def execReadChannel (p : Port) (tag : Byte) (fields : List Byte) (s : State) :
    Host.Outcome State Fault Refusal :=
  s.submit p (RequestKind.readChannel.code :: tag :: fields)

/-- SET_REFERENCES (R81, R82). -/
def execSetReferences (p : Port) (tag : Byte) (fields : List Byte) (s : State) :
    Host.Outcome State Fault Refusal :=
  s.submit p (RequestKind.setReferences.code :: tag :: fields)

/-- SET_PROFILE (R101, R102). -/
def execSetProfile (p : Port) (tag : Byte) (fields : List Byte) (s : State) :
    Host.Outcome State Fault Refusal :=
  s.submit p (RequestKind.setProfile.code :: tag :: fields)

/-- RESTART (R104). -/
def execRestart (p : Port) (tag : Byte) (fields : List Byte) (s : State) :
    Host.Outcome State Fault Refusal :=
  s.submit p (RequestKind.restart.code :: tag :: fields)

/-- PLAY (R141, R143). -/
def execPlay (p : Port) (tag : Byte) (fields : List Byte) (s : State) :
    Host.Outcome State Fault Refusal :=
  s.submit p (RequestKind.play.code :: tag :: fields)

/-- STOP (R142). -/
def execStop (p : Port) (tag : Byte) (fields : List Byte) (s : State) :
    Host.Outcome State Fault Refusal :=
  s.submit p (RequestKind.stop.code :: tag :: fields)

/-- NOTICE_MASK (R137). -/
def execNoticeMask (p : Port) (tag : Byte) (fields : List Byte) (s : State) :
    Host.Outcome State Fault Refusal :=
  s.submit p (RequestKind.noticeMask.code :: tag :: fields)

/-- UNKNOWN_KIND: a request whose kind byte is none of the sixteen (R126). -/
def execUnknownKind (p : Port) (kind tag : Byte) (fields : List Byte) (s : State) :
    Host.Outcome State Fault Refusal :=
  s.submit p (kind :: tag :: fields)

end Sys2Proof.Machine
end

