-- ==== Sys2Proof/Machine/Wire.lean ====
section
/-! DEFINITION. Bytes on the wires: the serial order of slots and bits on DINp and DOUTp (R87, R95, R96), and
the level of DOUTp. The commands carry whole bytes; these functions say which bits they are. -/

namespace Sys2Proof.Machine

open Sys2Proof

/-- The bits of a byte in serial order, the most significant first (R87, R159). -/
def byteBits (b : Byte) : List Bool :=
  [b.getMsbD 0, b.getMsbD 1, b.getMsbD 2, b.getMsbD 3, b.getMsbD 4, b.getMsbD 5, b.getMsbD 6, b.getMsbD 7]

/-- The bits of a frame in serial order: slot s at positions 8s to 8s + 7 (R87). -/
def frameBits (f : Frame) : List Bool := f.flatMap byteBits

/-- The byte that eight bits in serial order make, shifted in one after another (R95). -/
def byteOfBits (bits : List Bool) : Byte :=
  bits.foldl (fun v x => (v <<< 1) ||| (if x then 1 else 0)) 0

/-- The bytes that bits in serial order make, slot by slot; bits short of a byte make none (R95). -/
def bytesOfBits : List Bool → List Byte
  | a :: b :: c :: d :: e :: f :: g :: h :: rest => byteOfBits [a, b, c, d, e, f, g, h] :: bytesOfBits rest
  | _ => []

/-- The level of DOUTp after `sent` bits of what it carries were driven, one at each rising edge: high, the
fill byte's bits in turn, the bits of the outbound frame, or the held level (R87, R90, R96, R170). -/
def Dout.level (d : Dout) (fill : Byte) (sent : Nat) : Bool :=
  match d, sent with
  | .high, _ => true
  | .held level, _ => level
  | .pattern before, 0 => before
  | .pattern _, n + 1 => fill.getMsbD (n % 8)
  | .frame before _, 0 => before
  | .frame _ bytes, n + 1 => (frameBits bytes).getD n false

/-- The level of DOUTp at a frame end, where the last bit of the outbound frame is on the wire (R87). -/
def Dout.atEnd (d : Dout) : Bool :=
  match d with
  | .high => true
  | .held level => level
  | .pattern before => before
  | .frame before bytes => (frameBits bytes).getLastD before

/-- The level of DOUT of port `p` after `sent` bits of what it carries. -/
def Part.doutLevel (s : Part) (p : Port) (sent : Nat) : Bool :=
  (s.port p).dout.level (s.port p).profile.fill sent

end Sys2Proof.Machine
end

