-- ==== Sys2Proof/Machine/Channel.lean ====
section
/-! DEFINITION. The receiver and the sender of a control channel (R106 to R108, R112, R117, R118, R120), and
the outbound frame start (R57, R94, R96). -/

namespace Sys2Proof.Machine

open Sys2Proof

/-! ### The receiver (R107, R108) -/

/-- Change the receiver of channel `p`. -/
def Part.setReceiver (s : Part) (p : Port) (r : Receiver) : Part :=
  s.modifyChan p fun c => { c with rx := r }

/-- The receiver hunts, with nothing partial (R108). The running check keeps the value it had: no rule gives
one for HUNT after device reset, and the next sync byte sets it to 00H (DESIGN CHOICE, log 33). -/
def Receiver.hunting (r : Receiver) : Receiver := { r with state := .hunt, partialMessage := none }

/-- The bytes of the partial message: its length byte and the body bytes so far (R107). -/
def Receiver.bytes (r : Receiver) : List Byte := r.partialMessage.getD []

/-- A byte is kept and enters the running check (R108). -/
def Receiver.keep (r : Receiver) (b : Byte) (next : RxState) : Receiver :=
  ⟨next, some (r.bytes ++ [b]), checkStep r.running b⟩

/-- The state after a body byte: CHECK when it is the L-th (R108). -/
def Receiver.afterBody (r : Receiver) : RxState :=
  match r.bytes with
  | [] => .body
  | length :: body => if length.toNat ≤ body.length + 1 then .check else .body

/-- A byte reaches the receiver of channel `p`: it acts by its state and the byte (R108, R109). -/
def Part.receive (s : Part) (p : Port) (b : Byte) : Part :=
  let r := (s.chan p).rx
  match r.state with
  | .hunt => if b = syncByte then s.setReceiver p ⟨.length, some [], 0⟩ else s
  | .length =>
    if 2 ≤ b.toNat ∧ b.toNat ≤ 32 then s.setReceiver p (r.keep b .body)
    else
      (s.setReceiver p r.hunting).count p fun c => { c with framingErrors := c.framingErrors + 1 }
  | .body => s.setReceiver p (r.keep b r.afterBody)
  | .check =>
    if b = r.running then (s.setReceiver p r.hunting).messageComplete p r.bytes.tail
    else (s.setReceiver p r.hunting).count p fun c => { c with checkErrors := c.checkErrors + 1 }

/-- A control byte arrival at port `p` in LOCKED or COAST: the bytes received join the inbound frame in
progress, and the control byte goes to the receiver at once (R95). -/
def Part.controlByte (s : Part) (p : Port) (earlier : List Byte) (b : Byte) : Part :=
  (s.modifyPort p fun u =>
    { u with
      received := u.received ++ earlier ++ [b]
      position := 8 * u.profile.control + 7 }).receive p b

/-- CONTROL_BYTE_ARRIVAL (R95, R108). -/
def execControlByteArrival (p : Port) (earlier : List Byte) (b : Byte) (s : State) :
    Host.Outcome State Fault Refusal :=
  s.answer <| s.part.whenRunning fun d => if d.inLock p then d.controlByte p earlier b else d

/-- CONTROL_MESSAGE_RECEIVED: the arrival of a byte at a receiver in CHECK, where the message is complete
or fails its check (R108, R109; log 8). -/
def execControlMessageReceived (p : Port) (earlier : List Byte) (check : Byte) (s : State) :
    Host.Outcome State Fault Refusal :=
  s.answer <| s.part.whenRunning fun d =>
    if d.inLock p && (d.chan p).rx.state == .check then d.controlByte p earlier check else d

/-! ### The sender (R112, R117, R118) -/

/-- The sender after it has placed byte number `placed` of a message: none when that was the check byte
(R117). -/
def Sending.after (m : Sending) : Option Sending :=
  if m.placed + 1 < m.message.length then some { m with placed := m.placed + 1 } else none

/-- The byte of the message to be placed next. -/
def Sending.next (m : Sending) : Byte := m.message.getD m.placed 0

/-- The sender goes on with a message. When it places the check byte of the marked reply it tells the port
unit so (R117, R118). -/
def Part.sendNext (s : Part) (p : Port) (m : Sending) : Part :=
  let s' := s.modifyChan p fun c => { c with sender := m.after }
  if m.marked && m.after.isNone then s'.modifyPort p fun u => { u with actionDue := true } else s'

/-- The sender starts the head reply: it leaves the queue, its overrun field takes the tally, which becomes
0, and taking is tested again (R112, R117). -/
def Part.sendReply (s : Part) (p : Port) (r : Reply) (rest : List Reply) : Part :=
  (s.modifyChan p fun c =>
    { c with
      replies := rest
      overrun := 0
      sender := some ⟨framed (r.body c.overrun), 1, r.marked⟩ }).takeWaiting p intakeSize

/-- The sender starts the head notice (R117). -/
def Part.sendNotice (s : Part) (p : Port) (n : QueuedNotice) (rest : List QueuedNotice) : Part :=
  s.modifyChan p fun c => { c with notices := rest, sender := some ⟨framed n.body, 1, false⟩ }

/-- The sender's share of an outbound frame start (R117). -/
def Part.place (s : Part) (p : Port) : Part :=
  let c := s.chan p
  match c.sender, c.replies, c.notices with
  | some m, _, _ => s.sendNext p m
  | none, r :: rest, _ => s.sendReply p r rest
  | none, [], n :: rest => s.sendNotice p n rest
  | none, [], [] => s

/-- The byte the sender places at an outbound frame start: the next byte of the message in progress, the
sync byte of a message it starts, or the idle byte 00H (R117). -/
def ControlChannel.placed (c : ControlChannel) : Byte :=
  match c.sender, c.replies, c.notices with
  | some m, _, _ => m.next
  | none, [], [] => 0
  | none, _, _ => syncByte

/-! ### The outbound frame start (R57, R96) -/

/-- The frame sent from an outbound frame start on: the yield, or the fill byte in every slot, with the
sender's byte in the control slot (R57, R96). -/
def sentFrame (f : Profile) (yield : Option Frame) (control : Byte) : Frame :=
  (yield.getD (List.replicate f.slots f.fill)).set f.control control

/-- The outbound frame start of port `p`: the store is read once, and the sender places one byte
(R57, R94, R96). The store is read and the frame fixed, its fill byte included, before a request is taken in
the place that a starting reply frees (DESIGN CHOICE, log 32). -/
def Part.outboundStart (s : Part) (p : Port) : Part :=
  let u := s.port p
  let sent := sentFrame u.profile (s.outStores.get p).yield (s.chan p).placed
  ((s.readOutbound p).modifyPort p fun v => { v with dout := .frame u.dout.atEnd sent }).place p

/-! ### Leaving lock (R120) -/

/-- The channel at a leaving of lock: everything in flight is forgotten, the mask is kept (R120); the
running check is 00H as after device reset (DESIGN CHOICE, log 33). -/
def ControlChannel.left (c : ControlChannel) : ControlChannel :=
  { ControlChannel.reset with mask := c.mask }

end Sys2Proof.Machine
end

