-- ==== Sys2Proof/Machine/Ports.lean ====
section
/-! DEFINITION. The port unit: clock watch, acquisition, frame ends, entry to LOCKED and leaving lock
(6.3 to 6.5), and the shares of a frame start (R94, R117). -/

namespace Sys2Proof.Machine

open Sys2Proof

/-! ### PORT_STATE (R99) -/

/-- Raise PORT_STATE for a change of port `p` from `before` to the lock state it now has (R99). -/
def Part.raisePortState (s : Part) (p : Port) (before : LockState) (cause : PortCause) : Part :=
  let u := s.port p
  s.raise (.portState p before u.lock cause u.counters.lockLosses s.frameNumber)

/-! ### DARK and SEEK (R90) -/

/-- The port out of lock in a state, with nothing of a frame kept. DESIGN CHOICE (log 10): the position is 0 in
DARK and SEEK, where R88 gives it no meaning. -/
def PortUnit.outOfLock (u : PortUnit) (dest : LockState) (dout : Dout) : PortUnit :=
  { u with
    lock := dest
    position := 0
    actionDue := false
    misplaced := false
    received := []
    dout := dout
    owing := .nothing }

/-- CLOCK_FOUND: the first edge of BCKp in DARK moves the port to SEEK (R90). -/
def execClockFound (p : Port) (s : State) : Host.Outcome State Fault Refusal :=
  s.answer <| s.part.whenRunning fun d =>
    if (d.port p).lock = .dark then
      (d.modifyPort p fun u => u.outOfLock .seek (.pattern u.dout.atEnd)).raisePortState p .dark .clockFound
    else d

/-! ### Leaving lock (R97) -/

/-- What a leaving of lock does at the port unit, its stores and its channel (R97, R120). `counted` says
that the leaving is a lock loss (the clock watch or a fourth bad frame). -/
def Part.dropLock (s : Part) (p : Port) (dest : LockState) (dout : Dout) (counted : Bool) : Part :=
  ((s.modifyPort p fun u =>
    { u.outOfLock dest dout with
      counters :=
        if counted then { u.counters with lockLosses := u.counters.lockLosses + 1 }
        else u.counters }).flushStores p).modifyChan p ControlChannel.left

/-- The leaving of lock of port `p`: the stores are flushed, the channel is reset, a pending action takes
effect, PORT_STATE is raised, and the lock change reaches the reference unit (R74, R97). -/
def Part.leaveLock (s : Part) (p : Port) (dest : LockState) (dout : Dout) (cause : PortCause)
    (counted : Bool) : Part :=
  let before := (s.port p).lock
  ((((s.dropLock p dest dout counted).actionEffect p).raisePortState p before cause)).lockChanged p before dest

/-- CLOCK_WATCH_EXPIRY: 250 microseconds without an edge of BCKp put the port into DARK, where DOUTp holds
the level it last had (R90; log 13). -/
def execClockWatchExpiry (clock : StoppedClock) (s : State) : Host.Outcome State Fault Refusal :=
  s.answer <| s.part.whenRunning fun d =>
    let p := clock.port
    let level := Dout.held (d.doutLevel p clock.sent)
    match (d.port p).lock with
    | .dark => d
    | .seek =>
      (d.modifyPort p fun u => u.outOfLock .dark level).raisePortState p .seek .clockLost
    | .confirm n =>
      (d.modifyPort p fun u => u.outOfLock .dark level).raisePortState p (.confirm n) .clockLost
    | .locked | .coast _ => d.leaveLock p .dark level .clockLost true

/-! ### Acquisition (R91, R93) -/

/-- The entry of port `p` to LOCKED from CONFIRM, which is its first frame start: no inbound frame
completion, the lapse timer set to 0, PORT_STATE raised, and an outbound frame start unless that is taken
by a following command of the same instant (R93, R94, R121). DOUTp has the level of the pattern's last bit
until the frame's first bit (R87, R96). -/
def Part.enterLock (s : Part) (p : Port) (sent : Nat) (deferStart : Bool) : Part :=
  let before := (s.port p).lock
  let level := s.doutLevel p sent
  let s1 := s.modifyPort p fun u =>
    { u with
      lock := .locked
      hasLocked := true
      position := 0
      misplaced := false
      received := []
      dout := .held level
      owing := if deferStart then .start else .nothing }
  let s2 := (s1.setLapseTimer p 0).raisePortState p before .frameFound
  if deferStart then s2 else s2.outboundStart p

/-- The port is in CONFIRM with a good count, at position 0 (R91). -/
def Part.confirming (s : Part) (p : Port) (good : Nat) : Part :=
  s.modifyPort p fun u => { u with lock := .confirm good, position := 0 }

/-- A frame pulse at port `p` (R91, R92). -/
def Part.pulse (s : Part) (p : Port) (place : PulsePlace) (deferStart : Bool) : Part :=
  let position := place.position
  let b := (s.port p).profile.bits
  match (s.port p).lock with
  | .dark => s
  | .seek => s.confirming p 0
  | .confirm good =>
    if position = b then
      if 2 ≤ good + 1 then s.enterLock p place.sent deferStart else s.confirming p (good + 1)
    else if 1 ≤ position ∧ position < b then s.confirming p 0
    else s
  | .locked | .coast _ =>
    if 1 ≤ position ∧ position < b then
      s.modifyPort p fun u => { u with misplaced := true, position := position }
    else s

/-- FRAME_PULSE (R91, R92). A pulse at position B in LOCKED or COAST is carried by FRAME_END (log 10). -/
def execFramePulse (p : Port) (place : PulsePlace) (deferStart : Bool) (s : State) :
    Host.Outcome State Fault Refusal :=
  s.answer <| s.part.whenRunning fun d => d.pulse p place deferStart

/-- CONFIRM_MISSING_PULSE: no pulse at position B in CONFIRM returns the port to SEEK (R91), where
the position is 0 (DESIGN CHOICE, log 10). -/
def execConfirmMissingPulse (p : Port) (s : State) : Host.Outcome State Fault Refusal :=
  s.answer <| s.part.whenRunning fun d =>
    match (d.port p).lock with
    | .confirm _ => d.modifyPort p fun u => { u with lock := .seek, position := 0 }
    | .dark | .seek | .locked | .coast _ => d

/-! ### Frame ends (R92, R94, R102) -/

/-- COAST(3), where a bad frame end is no frame start (R92). -/
def LockState.lastCoast : LockState → Bool
  | .coast n => 3 ≤ n
  | .dark | .seek | .confirm _ | .locked => false

/-- The frame that ends is good: a pulse at position B and none recorded before it (R92). In COAST(3) an
outbound share that was taken ahead has shown it already: it is taken there at a good end only (R94, log 9).
-/
def PortUnit.goodEnd (u : PortUnit) (pulse : Bool) : Bool :=
  (pulse && !u.misplaced) || (u.owing == .completion && u.lock.lastCoast)

/-- The lock state after a frame end that is a frame start (R92). -/
def LockState.afterEnd (l : LockState) (good : Bool) : LockState :=
  if good then .locked
  else match l with
    | .coast n => .coast (n + 1)
    | .dark | .seek | .confirm _ | .locked => .coast 1

/-- A bad end in COAST(3) leaves lock (R92). -/
def PortUnit.fourthBad (u : PortUnit) (good : Bool) : Bool := !good && u.lock.lastCoast

/-- This frame end is the reply's frame end of the pending action (R102, R118). A frame start whose
outbound share was taken ahead is not: the flag that share set is for the next frame end (log 9). -/
def PortUnit.replyEnd (u : PortUnit) : Bool :=
  u.actionDue && u.action.isSome && u.owing != .completion

/-- The cause of a leaving at the reply's frame end (R99). -/
def actionCause : Option PortAction → PortCause
  | some .restart => .restart
  | _ => .profile

/-- The frame end is a frame start: neither a fourth bad frame nor a reply's frame end (R92, R102). -/
def PortUnit.startsFrame (u : PortUnit) (pulse : Bool) : Bool :=
  !u.fourthBad (u.goodEnd pulse) && !u.replyEnd

/-- A frame start that enters LOCKED from COAST leaves the lapse timer at 0 (R28, R93). -/
def Part.lapseAtEnd (s : Part) (p : Port) (before after : LockState) : Part :=
  if before ≠ .locked ∧ after = .locked then s.setLapseTimer p 0 else s

/-- The frame start of a frame end: the lock state, and the inbound frame completion (R53, R92, R94). The lock
change reaches the reference unit before the store is written, so that CANDIDATE_LOST precedes a SLIP of the
same frame end (DESIGN CHOICE, log 19). -/
def Part.completeFrame (s : Part) (p : Port) (good : Bool) (rest : List Byte) : Part :=
  let u := s.port p
  let after := u.lock.afterEnd good
  let got := u.received ++ rest
  let s1 := ((s.modifyPort p fun u =>
    { u with lock := after, position := 0, misplaced := false, received := [] }).lapseAtEnd p u.lock
      after).lockChanged p u.lock after
  { s1 with freeCount := freeAfter u.profile.slots s1.freeCount got }.writeInbound p
    (fitBytes u.profile.slots s1.freeCount got)

/-- The bad frame counter rises at a bad frame end (R92, R100). -/
def Part.judged (s : Part) (p : Port) (good : Bool) : Part :=
  if good then s else s.count p fun c => { c with badFrames := c.badFrames + 1 }

/-- Position B in LOCKED or COAST: the frame is judged, and the port leaves lock, or its pending action
takes effect, or a frame start completes the inbound frame (R92, R97, R102). -/
def Part.endFrame (s : Part) (p : Port) (pulse : Bool) (rest : List Byte) : Part :=
  let u := s.port p
  let good := u.goodEnd pulse
  let s' := s.judged p good
  if u.fourthBad good then s'.leaveLock p .seek (.pattern u.dout.atEnd) .framingLost true
  else if u.replyEnd then s'.leaveLock p .seek (.pattern u.dout.atEnd) (actionCause u.action) false
  else s'.completeFrame p good rest

/-- Record which share of the present frame start is still to come. -/
def Part.setOwing (s : Part) (p : Port) (o : Owing) : Part := s.modifyPort p fun u => { u with owing := o }

/-- An outbound frame start that is owing is taken before the next frame end. -/
def Part.settleStart (s : Part) (p : Port) : Part :=
  if (s.port p).owing = .start then (s.setOwing p .nothing).outboundStart p else s

/-- The outbound share of a frame start: taken when it is owing, or ahead of the completion; not at a frame
end that is no frame start, a fourth bad frame or the reply's frame end (R92, R94, R102, R118). -/
def Part.startShare (s : Part) (p : Port) (pulse : Bool) : Part :=
  let u := s.port p
  match u.owing with
  | .start => (s.setOwing p .nothing).outboundStart p
  | .nothing => if u.startsFrame pulse then (s.setOwing p .completion).outboundStart p else s
  | .completion => s

/-- The completion share of a frame end; the outbound share is left owing unless it was taken ahead. -/
def Part.completionShare (s : Part) (p : Port) (pulse : Bool) (rest : List Byte) : Part :=
  let s0 := s.settleStart p
  let u := s0.port p
  let s' := s0.endFrame p pulse rest
  if u.startsFrame pulse then
    s'.setOwing p (if u.owing = .completion then .nothing else .start)
  else s'

/-- A frame end with both its shares, completion first; a share already taken is not taken again. -/
def Part.wholeEnd (s : Part) (p : Port) (pulse : Bool) (rest : List Byte) : Part :=
  (s.completionShare p pulse rest).settleStart p

/-- FRAME_END: position B in LOCKED or COAST (R92, R94; log 9, log 11). -/
def execFrameEnd (p : Port) (pulse : Bool) (rest : List Byte) (share : FrameShare) (s : State) :
    Host.Outcome State Fault Refusal :=
  s.answer <| s.part.whenRunning fun d =>
    if d.inLock p then
      match share with
      | .whole => d.wholeEnd p pulse rest
      | .completion => d.completionShare p pulse rest
      | .start => d.startShare p pulse
    else d

/-- REPLY_START: the outbound frame start at which the free sender starts the head reply (R117; log 9). Ahead
of the completion it says that the frame end is a frame start, in COAST(3) hence a good one. -/
def execReplyStart (p : Port) (s : State) : Host.Outcome State Fault Refusal :=
  s.answer <| s.part.whenRunning fun d =>
    let c := d.chan p
    if d.inLock p && c.sender.isNone && !c.replies.isEmpty then d.startShare p true else d

/-- NOTICE_START: the outbound frame start at which the free sender, with no reply waiting, starts the head
notice (R117; log 9). -/
def execNoticeStart (p : Port) (s : State) : Host.Outcome State Fault Refusal :=
  s.answer <| s.part.whenRunning fun d =>
    let c := d.chan p
    if d.inLock p && c.sender.isNone && c.replies.isEmpty && !c.notices.isEmpty then d.startShare p true
    else d

end Sys2Proof.Machine
end

