-- ==== Sys2Proof/Machine/Memory.lean ====
section
/-! DEFINITION. The pattern memory port: the arbiter, bursts and their completion, the loan (Chapter 10). -/

namespace Sys2Proof.Machine

open Sys2Proof

/-- Change the memory port record. -/
def Part.setMem (s : Part) (m : MemPort) : Part := { s with mem := m }

/-! ### The pins (R157, R159, R170) -/

/-- How the memory pins MCK, MCS and MDO stand (R157). -/
inductive MemPins where
  /-- Driven by the part, no transaction: MCS high, MCK and MDO at these levels. -/
  | driven (mck mdo : Bool)
  /-- Driven by the part, a transaction in progress. -/
  | transaction
  /-- High impedance; the loader drives them. -/
  | highImpedance
  deriving DecidableEq, Repr

/-- The memory pins: high impedance while LOAN_GNT is high, a transaction while a burst is in flight, else
driven (R157, R158, R170). -/
def MemPort.pins (m : MemPort) : MemPins :=
  if m.loanGnt then .highImpedance else if m.burst.isSome then .transaction else .driven m.mck m.mdo

/-- The bytes the part sends on MDO for a burst: the read command A1H and the address, most significant
byte first (R159). -/
def Burst.command (b : Burst) : List Byte := 0xA1 :: be24Nat b.address.toNat

/-- The bits the part sends on MDO for a burst, the most significant of each byte first (R159). -/
def Burst.commandBits (b : Burst) : List Bool := b.command.flatMap byteBits

/-- The MCK periods a burst occupies: eight for each byte sent or received (R159). -/
def Burst.clocks (b : Burst) : Nat := (4 + b.size) * 8

/-! ### The arbiter (R160, R161) -/

/-- The oldest fetch awaiting issue (R160). -/
def PlaybackUnit.nextFetch (u : PlaybackUnit) : Option Fetch :=
  u.fetches.find? fun f => f.progress == .awaitingIssue

/-- The channels in the order the arbiter visits them: from the one after the pointer, wrapping (R161). -/
def visitOrder (pointer : Channel) : List Channel :=
  [pointer + 1, pointer + 2, pointer + 3, pointer + 4, pointer + 5, pointer + 6, pointer + 7, pointer]

/-- The channel whose refill is served next (R161). -/
def Part.nextRefill (s : Part) : Option Channel :=
  (visitOrder s.mem.pointer).find? fun k => (s.channel k).wantsRefill

/-- The arbiter has a choice to make: the port is IDLE and a fetch or a refill request stands (R160). -/
def Part.arbiterStands (s : Part) : Bool :=
  s.mem.state == .idle && (s.play.nextFetch.isSome || s.nextRefill.isSome)

/-- The fetch list with the fetch for `n` ISSUED (R146). -/
def issueFetch (fs : List Fetch) (n : Pattern) : List Fetch :=
  fs.map fun f => if f.pattern == n then { f with progress := .issued } else f

/-- The descriptor burst for pattern `n`: 16 bytes at address 16n (R157). -/
def descriptorBurst (n : Pattern) : Burst := ⟨.descriptor n, BitVec.ofNat 24 (16 * n.val), 16⟩

/-- The refill burst of channel `k` (R149). -/
def refillBurst (k : Channel) (c : ChannelRecord) (d : Descriptor) : Burst :=
  ⟨.refill k c.epoch, refillAddress c d, refillSize c d⟩

/-- A burst is issued: READING, and MCK and MDO leave their levels of device reset (R160, R170). -/
def MemPort.issue (m : MemPort) (b : Burst) : MemPort :=
  { m with state := .reading, burst := some b, quiet := false }

/-- The arbiter's choice in IDLE: the oldest fetch awaiting issue, otherwise a refill in turn (R160, R161).
-/
def Part.arbitrate (s : Part) : Part :=
  if s.mem.state = .idle then
    match s.play.nextFetch with
    | some f =>
      (s.setFetches (issueFetch s.play.fetches f.pattern)).setMem
        (s.mem.issue (descriptorBurst f.pattern))
    | none =>
      match s.nextRefill with
      | none => s
      | some k =>
        match (s.channel k).desc with
        | none => s
        | some d =>
          (s.setChannel k ((s.channel k).issued d)).setMem
            { s.mem.issue (refillBurst k (s.channel k) d) with pointer := k }
  else s

/-- ARBITER_CHOICE (R160). -/
def execArbiterChoice (s : State) : Host.Outcome State Fault Refusal :=
  s.answer <| s.part.whenRunning Part.arbitrate

/-! ### The grant and the return (R163 to R166) -/

/-- A grant: LOANED, LOAN_GNT high, MEMORY (LOANED) raised (R163, R166). -/
def Part.grant (s : Part) : Part :=
  (s.setMem { s.mem with state := .loaned, loanGnt := true }).raise (.memory .loaned 0 s.frameNumber)

/-- A channel that the return of the memory halts (R165). -/
def ChannelRecord.dependsOnMemory (c : ChannelRecord) : Bool :=
  c.state == .loading || c.state == .priming || c.state == .playing

/-- The channels the return halts, in ascending order (R165). -/
def Part.retakenChannels (s : Part) : List Channel :=
  allChannels.filter fun k => (s.channel k).dependsOnMemory

/-- The part drives the pins again at a return: MCK low; MDO low while no burst has been issued since
device reset, else at a level the spec does not give, a free value (R165, R170; log 34). -/
def Part.drivePins (s : Part) : Part :=
  { s with
    mem := { s.mem with
      state := .idle
      loanGnt := false
      mck := false
      mdo := if s.mem.quiet then s.mem.mdo else Config.freeLevel s.freeCount }
    freeCount := if s.mem.quiet then s.freeCount else s.freeCount + 1 }

/-- The return: LOAN_GNT low and IDLE, the cache and the fetch list emptied, the dependent channels halted
with a notice each, MEMORY (RETURNED) raised, and the arbiter's choice (R165, R166). -/
def Part.returned (s : Part) : Part :=
  let halted := s.retakenChannels
  let s1 := (s.drivePins.setCache []).setFetches []
  let s2 := halted.foldl (fun d k => d.haltWithNotice k .memoryRetaken) s1
  (s2.raise (.memory .returned halted.length s2.frameNumber)).arbitrate

/-! ### Burst completion (R162) -/

/-- The bytes of a burst reach the playback unit (R147, R150). -/
def Part.deliver (s : Part) (b : Burst) (bytes : List Byte) : Part :=
  match b.kind with
  | .descriptor n => s.fetchCompleted n bytes
  | .refill k e => s.setChannel k ((s.channel k).refilled e bytes)

/-- The transaction ends with MCS high: no burst is in flight, and MCK and MDO stand at levels the spec
does not give, free values (R159, R162; log 34). -/
def Part.endTransaction (s : Part) : Part :=
  { s with
    mem := { s.mem with
      burst := none
      mck := Config.freeLevel s.freeCount
      mdo := Config.freeLevel (s.freeCount + 1) }
    freeCount := s.freeCount + 2 }

/-- The burst in flight ends: its bytes are delivered, then the port becomes IDLE or grants a pending loan
(R162). -/
def Part.completeBurst (s : Part) (bytes : List Byte) : Part :=
  match s.mem.burst with
  | none => s
  | some b =>
    let s1 := { s with freeCount := freeAfter b.size s.freeCount bytes }.deliver b
      (fitBytes b.size s.freeCount bytes)
    let s2 := s1.endTransaction
    match s.mem.state with
    | .reading => s2.setMem { s2.mem with state := .idle }
    | .loanPending => s2.grant
    | .idle | .loaned => s2

/-- BURST_COMPLETION (R162). -/
def execBurstCompletion (bytes : List Byte) (s : State) : Host.Outcome State Fault Refusal :=
  s.answer <| s.part.whenRunning fun d => d.completeBurst bytes

/-! ### Changes of LOAN_REQ (R158, R163, R164, R168) -/

/-- LOAN_REQ stands at a level. -/
def Part.setLoanReq (s : Part) (level : Bool) : Part := s.setMem { s.mem with loanReq := level }

/-- An assertion of LOAN_REQ is taken: with no memory strapped LOAN_GNT follows it, else it acts by the
state of the port (R158, R163). -/
def Part.takeLoanReq (s : Part) : Part :=
  if s.mem.size = .none then s.setMem { s.mem with loanGnt := true }
  else
    match s.mem.state with
    | .idle => s.grant
    | .reading => s.setMem { s.mem with state := .loanPending }
    | .loanPending | .loaned => s

/-- A release of LOAN_REQ is taken (R158, R164). -/
def Part.takeLoanRelease (s : Part) : Part :=
  if s.mem.size = .none then s.setMem { s.mem with loanGnt := false }
  else
    match s.mem.state with
    | .loanPending => s.setMem { s.mem with state := .reading }
    | .loaned => s.returned
    | .idle | .reading => s

/-- LOAN_REQ_ASSERTION: the change from low to high (R163). While device reset lasts the level changes and
no event is taken (R168). -/
def execLoanReqAssertion (s : State) : Host.Outcome State Fault Refusal :=
  s.answer <|
    if s.part.mem.loanReq then s.part
    else (s.part.setLoanReq true).whenRunning Part.takeLoanReq

/-- LOAN_REQ_RELEASE: the change from high to low (R164). -/
def execLoanReqRelease (s : State) : Host.Outcome State Fault Refusal :=
  s.answer <|
    if s.part.mem.loanReq then (s.part.setLoanReq false).whenRunning Part.takeLoanRelease
    else s.part

end Sys2Proof.Machine
end

