-- ==== Sys2Proof/Machine/Reset.lean ====
section
/-! DEFINITION. Device reset: its beginning and its end (R168, R169, R171). -/

namespace Sys2Proof.Machine

open Sys2Proof

/-! ### Straps (R169) -/

/-- The slot count a strap gives: low 32, high 64. -/
def strapSlotCount (high : Bool) : SlotCount := if high then .s64 else .s32

/-- The slot count strap of port `p`. -/
def strapHigh (x : Straps) (p : Port) : Bool :=
  if p = 0 then x.sc0 else if p = 1 then x.sc1 else if p = 2 then x.sc2 else x.sc3

/-- The port that RS1 (high bit) and RS0 name. -/
def strapRefPort (x : Straps) : Port :=
  match x.rs1, x.rs0 with
  | false, false => 0
  | false, true => 1
  | true, false => 2
  | true, true => 3

/-- The candidate list after reset: the named port alone, or empty when RS2 is low. -/
def strapRefList (x : Straps) : List Port := if x.rs2 then [strapRefPort x] else []

/-- The memory size the straps give, MS1 the high bit. -/
def strapMemSize (x : Straps) : MemSize :=
  match x.ms1, x.ms0 with
  | false, false => .none
  | false, true => .mib1
  | true, false => .mib4
  | true, true => .mib16

/-! ### Beginning and end (R168, R171) -/

/-- The part while device reset lasts: every block at its reset values; the level of LOAN_REQ, an input, and
the count of free values drawn go on (log 21, log 22). DESIGN CHOICE (log 16): the local frame timer stands at
0 from the beginning, and what the straps will set at its strap-low value. -/
def Part.held (s : Part) : Part :=
  { Part.reset with
    inReset := true
    mem := { MemPort.reset with loanReq := s.mem.loanReq }
    freeCount := s.freeCount }

/-- RESET_BEGIN: an assertion while the part is already in reset has no other effect (R168). -/
def execResetBegin (s : State) : Host.Outcome State Fault Refusal :=
  s.answer <| if s.part.inReset then s.part else s.part.held

/-- The straps are sampled: they fix the slot counts, the candidate list and the memory size (R169). -/
def Part.sampleStraps (s : Part) (x : Straps) : Part :=
  { s with
    ports := .build fun p =>
      let u := s.port p
      { u with profile := { u.profile with slotCount := strapSlotCount (strapHigh x p) } }
    ref := { s.ref with list := strapRefList x, timer := 0 }
    mem := { s.mem with size := strapMemSize x } }

/-- The end of device reset: the straps are sampled, the local frame timer counts from 0, and a high LOAN_REQ
is taken as an assertion in IDLE (R158, R164, R168, R171). -/
def Part.release (s : Part) (x : Straps) : Part :=
  let s' := { s.sampleStraps x with inReset := false }
  if s'.mem.loanReq then s'.takeLoanReq else s'

/-- RESET_END: taken while device reset lasts (R168). -/
def execResetEnd (x : Straps) (s : State) : Host.Outcome State Fault Refusal :=
  s.answer <| if s.part.inReset then s.part.release x else s.part

end Sys2Proof.Machine
end

