-- ==== Sys2Proof/Machine/Dispatch.lean ====
section
/-! DEFINITION. The meaning of every command: one arm per row of spec/opcode_table.json. -/

namespace Sys2Proof.Machine

open Sys2Proof

def exec (i : Instr) (s : State) : Host.Outcome State Fault Refusal :=
  match i with
  | .resetBegin => Sys2Proof.Machine.execResetBegin s
  | .resetEnd straps => Sys2Proof.Machine.execResetEnd straps s
  | .exchangeFrameStart cause => Sys2Proof.Machine.execExchangeFrameStart cause s
  | .lapse first => Sys2Proof.Machine.execLapse first s
  | .qualified => Sys2Proof.Machine.execQualified s
  | .revertiveSwitch => Sys2Proof.Machine.execRevertiveSwitch s
  | .clockFound p => Sys2Proof.Machine.execClockFound p s
  | .clockWatchExpiry clock => Sys2Proof.Machine.execClockWatchExpiry clock s
  | .framePulse p place deferStart => Sys2Proof.Machine.execFramePulse p place deferStart s
  | .confirmMissingPulse p => Sys2Proof.Machine.execConfirmMissingPulse p s
  | .frameEnd p pulse rest share => Sys2Proof.Machine.execFrameEnd p pulse rest share s
  | .controlMessageReceived p earlier check => Sys2Proof.Machine.execControlMessageReceived p earlier check s
  | .replyStart p => Sys2Proof.Machine.execReplyStart p s
  | .noticeStart p => Sys2Proof.Machine.execNoticeStart p s
  | .probe p tag fields => Sys2Proof.Machine.execProbe p tag fields s
  | .claim p tag fields => Sys2Proof.Machine.execClaim p tag fields s
  | .release p tag fields => Sys2Proof.Machine.execRelease p tag fields s
  | .stage p tag fields => Sys2Proof.Machine.execStage p tag fields s
  | .discard p tag fields => Sys2Proof.Machine.execDiscard p tag fields s
  | .apply p tag fields => Sys2Proof.Machine.execApply p tag fields s
  | .readRoute p tag fields => Sys2Proof.Machine.execReadRoute p tag fields s
  | .readPort p tag fields => Sys2Proof.Machine.execReadPort p tag fields s
  | .readReference p tag fields => Sys2Proof.Machine.execReadReference p tag fields s
  | .readChannel p tag fields => Sys2Proof.Machine.execReadChannel p tag fields s
  | .setReferences p tag fields => Sys2Proof.Machine.execSetReferences p tag fields s
  | .setProfile p tag fields => Sys2Proof.Machine.execSetProfile p tag fields s
  | .restart p tag fields => Sys2Proof.Machine.execRestart p tag fields s
  | .play p tag fields => Sys2Proof.Machine.execPlay p tag fields s
  | .stop p tag fields => Sys2Proof.Machine.execStop p tag fields s
  | .noticeMask p tag fields => Sys2Proof.Machine.execNoticeMask p tag fields s
  | .unknownKind p kind tag fields => Sys2Proof.Machine.execUnknownKind p kind tag fields s
  | .arbiterChoice => Sys2Proof.Machine.execArbiterChoice s
  | .burstCompletion bytes => Sys2Proof.Machine.execBurstCompletion bytes s
  | .loanReqAssertion => Sys2Proof.Machine.execLoanReqAssertion s
  | .loanReqRelease => Sys2Proof.Machine.execLoanReqRelease s
  | .controlByteArrival p earlier b => Sys2Proof.Machine.execControlByteArrival p earlier b s

end Sys2Proof.Machine
end

