-- ==== Sys2Proof/Machine/Idle.lean ====
section
/-! DEFINITION. What the part does of itself while no command waits (log 3). -/

namespace Sys2Proof.Machine

open Sys2Proof

/-- One period of the local oscillator passes: the local frame timer counts (R71). -/
def Part.tick (s : Part) : Part := s.setRef { s.ref with timer := s.ref.timer + 1 }

/-- With no command waiting: an arbiter choice that stands is made at once (R160), an exchange frame start
that the local frame timer has reached is taken (R70), and else one oscillator period passes (R71). While
device reset lasts nothing happens and the timer does not count (R168). -/
def Part.idle (s : Part) : Part :=
  s.whenRunning fun d =>
    if d.arbiterStands then d.arbitrate
    else if d.startDue .localTimer then d.frameStart .localTimer
    else d.tick

end Sys2Proof.Machine
end

