-- ==== Sys2Proof/Safety.lean ====
section
/-! DEFINITION. The laws the spec states of the whole part: what a safe state is; and the words in which
statements about commands are put. The part never stops, so a safe run is one whose every state is safe. -/

namespace Sys2Proof.Machine

open Sys2Proof

/-! ### Stores, queues and timers -/

/-- R52: a store holds 0 to 4 frames, and a store whose port is out of lock holds none, is not primed and
has no last yielded frame. -/
abbrev Store.lawful (st : Store) (inLock : Bool) : Prop :=
  st.queue.length ≤ 4 ∧ (inLock = false → st.queue = [] ∧ st.primed = false ∧ st.last = none)

/-- R58: a primed store whose queue is empty has a last yielded frame. -/
abbrev Store.canRepeat (st : Store) : Prop :=
  st.primed = true → st.queue = [] → st.last.isSome = true

/-- R14, R52, R53: every frame queued or last yielded has `slots` bytes. -/
abbrev Store.framesFit (st : Store) (slots : Nat) : Prop :=
  (∀ f ∈ st.queue, f.length = slots) ∧ ∀ f ∈ st.last, f.length = slots

/-- R52 and R58 for both stores of every port, whose frames have the port's slot count. -/
abbrev Part.storesLawful (s : Part) : Prop :=
  ∀ p : Port,
    ((s.inStores.get p).lawful (s.inLock p) ∧ (s.inStores.get p).canRepeat
      ∧ (s.inStores.get p).framesFit (s.port p).profile.slots) ∧
    ((s.outStores.get p).lawful (s.inLock p) ∧ (s.outStores.get p).canRepeat
      ∧ (s.outStores.get p).framesFit (s.port p).profile.slots)

/-- R109, R111, R113, R115: the bounds of the three queues of a channel; a message waits in the intake only
while the reply queue is full. -/
abbrev ControlChannel.bounded (c : ControlChannel) : Prop :=
  c.intake.length ≤ 2 ∧ c.replies.length ≤ 4 ∧ c.notices.length ≤ 8
    ∧ (c.intake ≠ [] → c.replies.length = 4)

/-- The queue bounds of every channel. -/
abbrev Part.queuesBounded (s : Part) : Prop := ∀ p : Port, (s.chan p).bounded

/-- R28: no lapse timer passes 2048. -/
abbrev Part.timersBounded (s : Part) : Prop := ∀ p : Port, s.lapseTimer p ≤ 2048

/-- R100, R134: a port that has never locked since device reset is out of lock, and its counters are 0. -/
abbrev Part.countersLawful (s : Part) : Prop :=
  ∀ p : Port, (s.port p).hasLocked = false →
    s.inLock p = false ∧ (s.port p).counters = ⟨0, 0, 0, 0, 0, 0, 0, 0, 0⟩

/-- R88, R91, R92: the lock states there are: the good count is 0 or 1 in CONFIRM, since the second good spacing
enters LOCKED, and the bad count is 1 to 3 in COAST. -/
abbrev LockState.lawful (l : LockState) : Prop :=
  l ∈ [.dark, .seek, .confirm 0, .confirm 1, .locked, .coast 1, .coast 2, .coast 3]

/-- R88, R168: the lock state of every port is lawful, and DARK while device reset lasts. -/
abbrev Part.locksLawful (s : Part) : Prop :=
  ∀ p : Port, (s.port p).lock.lawful ∧ (s.inReset = true → (s.port p).lock = .dark)

/-- The lock states, the stores, the queues of the control channels, the lapse timers and the counters of the
ports keep their bounds. -/
abbrev Part.bounded (s : Part) : Prop :=
  s.locksLawful ∧ s.storesLawful ∧ s.queuesBounded ∧ s.timersBounded ∧ s.countersLawful

/-! ### The reference unit -/

/-- R68, R85: TRACK is high and a tracked port present exactly in TRACKING; a candidate is present in
QUALIFY and absent in FREE and HOLDOVER; FREE has no held period and HOLDOVER has one. R79, R82: with the
revertive flag OFF no candidate is held in TRACKING. -/
abbrev RefUnit.lawful (r : RefUnit) : Prop :=
  (r.track = true ↔ r.mode = .tracking) ∧ (r.tracked.isSome = true ↔ r.mode = .tracking)
    ∧ (r.mode = .qualify → r.candidate.isSome = true)
    ∧ ((r.mode = .free ∨ r.mode = .holdover) → r.candidate = none)
    ∧ (r.mode = .free → r.held = none) ∧ (r.mode = .holdover → r.held.isSome = true)
    ∧ (r.mode = .tracking → r.revertive = false → r.candidate = none)

/-- R68: a held period lies from 2028 to 2068. -/
abbrev RefUnit.heldInRange (r : RefUnit) : Prop := ∀ n, r.held = some n → 2028 ≤ n ∧ n ≤ 2068

/-- R68: the count is below 64 between events, and 0 with no candidate. -/
abbrev RefUnit.countLawful (r : RefUnit) : Prop := r.count < 64 ∧ (r.candidate = none → r.count = 0)

/-- R68, R69, R73: the list holds distinct ports; a candidate is listed, LOCKED and not the tracked port;
the tracked port is listed and LOCKED or COAST; while device reset lasts the mode is FREE. -/
abbrev Part.referenceLawful (s : Part) : Prop :=
  s.ref.lawful ∧ s.ref.heldInRange ∧ s.ref.countLawful ∧ s.ref.list.Nodup
    ∧ (∀ c, s.ref.candidate = some c →
        c ∈ s.ref.list ∧ (s.port c).lock = .locked ∧ s.ref.tracked ≠ some c)
    ∧ (∀ q, s.ref.tracked = some q → q ∈ s.ref.list ∧ s.inLock q = true)
    ∧ (s.inReset = true → s.ref.mode = .free)

/-! ### The map, the claims and the staging lists -/

/-- Slot `i` is carried by port `p` and is not its control slot. -/
abbrev Part.carries (s : Part) (p : Port) (i : Slot) : Prop :=
  i.val < (s.port p).profile.slots ∧ i.val ≠ (s.port p).profile.control

/-- A source names no inbound slot that its port does not carry, and no control slot (R3). -/
abbrev Part.sourceLawful (s : Part) : Source → Prop
  | .inbound q t => s.carries q t
  | .idle | .constant _ | .playback _ => True

/-- R3: the entry of a control slot or of a slot not carried is IDLE, and every source is lawful. -/
abbrev Part.mapLawful (s : Part) : Prop :=
  ∀ (p : Port) (i : Slot),
    (¬ s.carries p i → (s.entry p i).source = .idle) ∧ s.sourceLawful (s.entry p i).source

/-- R19: a held slot is carried and is not the control slot. -/
abbrev Part.heldCarried (s : Part) : Prop :=
  ∀ (p : Port) (i : Slot), (s.claims.holder (.slot p i)).isSome = true → s.carries p i

/-- R34, R35: a list holds at most 16 edits, no two with one target, each on a slot its master holds and
with a lawful source; it is armed only while it holds an edit. -/
abbrev Part.listsLawful (s : Part) : Prop :=
  ∀ m : Port,
    (s.list m).edits.length ≤ 16
      ∧ (s.list m).edits.Pairwise (fun e f => ¬ (e.port = f.port ∧ e.slot = f.slot))
      ∧ (∀ e ∈ (s.list m).edits, s.claims.holder (.slot e.port e.slot) = some m ∧ s.sourceLawful e.source)
      ∧ ((s.list m).target.isSome = true → (s.list m).edits ≠ [])

/-- While device reset lasts the map, the claim table and the lists hold their reset values (R168). -/
abbrev Part.resetHeld (s : Part) : Prop :=
  s.inReset = true →
    (∀ p i, (s.entry p i).source = .idle) ∧ (∀ p i, s.claims.holder (.slot p i) = none)
      ∧ ∀ m, (s.list m).edits = []

/-- The laws of the map, the claim table and the staging lists, together (R3, R19, R34, R35). -/
abbrev Part.routesLawful (s : Part) : Prop :=
  s.mapLawful ∧ s.heldCarried ∧ s.listsLawful ∧ s.resetHeld

/-! ### The playback unit and the memory port -/

/-- R157: a burst is in flight exactly in READING and LOAN_PENDING, and reads at most 16 bytes. -/
abbrev MemPort.lawful (m : MemPort) : Prop :=
  (m.burst.isSome = true ↔ (m.state = .reading ∨ m.state = .loanPending))
    ∧ ∀ b, m.burst = some b → b.size ≤ 16

/-- The size of the burst in flight when it is a refill of channel `k`, else 0. -/
def MemPort.inFlightFor (m : MemPort) (k : Channel) : Nat :=
  match m.burst with
  | some ⟨.refill j _, _, size⟩ => if j = k then size else 0
  | some ⟨.descriptor _, _, _⟩ | none => 0

/-- The pattern whose descriptor the burst in flight fetches, if it fetches one (R157). -/
def MemPort.fetching (m : MemPort) : Option Pattern :=
  match m.burst with
  | some ⟨.descriptor n, _, _⟩ => some n
  | some ⟨.refill _ _, _, _⟩ | none => none

/-- R146: no two fetches name one pattern; a fetch is ISSUED exactly while its burst is in flight, and one
AWAITING ISSUE has a waiter; a channel waits on at most one fetch, and on one exactly while LOADING. -/
abbrev Part.fetchesLawful (s : Part) : Prop :=
  (s.play.fetches.map Fetch.pattern).Nodup
    ∧ (∀ f ∈ s.play.fetches, f.progress = .issued ↔ s.mem.fetching = some f.pattern)
    ∧ (∀ n, s.mem.fetching = some n → n ∈ s.play.fetches.map Fetch.pattern)
    ∧ (∀ f ∈ s.play.fetches, f.progress = .awaitingIssue → f.waiters ≠ [])
    ∧ ∀ k : Channel,
        (s.play.fetches.filter fun f => f.waiters.contains k).length =
          if (s.channel k).state = .loading then 1 else 0

/-- R140, R145: a PRIMING or PLAYING channel has a descriptor copy; the cache holds at most four
descriptors, of distinct patterns, none of them the pattern of a pending fetch. -/
abbrev Part.descriptorsLawful (s : Part) : Prop :=
  (∀ k : Channel, ((s.channel k).state = .priming ∨ (s.channel k).state = .playing) →
      (s.channel k).desc.isSome = true)
    ∧ s.play.cache.length ≤ 4 ∧ (s.play.cache.map CacheEntry.pattern).Nodup
    ∧ ∀ e ∈ s.play.cache, e.pattern ∉ s.play.fetches.map Fetch.pattern

/-- R140, R148, R157: a channel's bytes in flight are those of its burst, and with them its queue holds at
most 32 bytes; with the laws of the fetches and of the descriptors. -/
abbrev Part.prefetchLawful (s : Part) : Prop :=
  s.mem.lawful ∧ s.fetchesLawful ∧ s.descriptorsLawful
    ∧ ∀ k : Channel,
        (s.channel k).inFlight = s.mem.inFlightFor k
          ∧ (s.channel k).queue.length + (s.channel k).inFlight ≤ 32

/-! ### Words for statements -/

/-- A request of the master on port `p` is taken as soon as it completes: the part runs, the port is in
lock, no message waits and the reply queue has a free place (R98, R109, R111). -/
abbrev Part.ready (s : Part) (p : Port) : Prop :=
  s.inReset = false ∧ s.inLock p = true ∧ (s.chan p).intake = [] ∧ (s.chan p).replies.length < 4

/-- `s` with one reply more at the tail of the reply queue of port `p` (R111). -/
def State.replying (s : State) (p : Port) (r : Reply) : State := { s with part := s.part.pushReply p r }

/-- `t` differs from `s` at the port units in slip counters at most. -/
abbrev Part.onlyCountersMoved (s t : Part) : Prop :=
  ∀ p : Port, t.port p = { s.port p with counters := (t.port p).counters }

/-- `t` differs from `s` at the control channels in the notice queues and lost tallies at most, and at no
port out of lock. -/
abbrev Part.onlyNoticesJoined (s t : Part) : Prop :=
  ∀ p : Port,
    t.chan p = { s.chan p with notices := (t.chan p).notices, lost := (t.chan p).lost }
      ∧ (s.inLock p = false → t.chan p = s.chan p)

/-- Notice `n` was among those that reached the notice queue of port `p` between `s` and `t`, where each
joined or was counted as lost (R115). -/
def Part.reached (s t : Part) (p : Port) (n : Notice) : Prop :=
  ∃ ns : List Notice, t.chan p = ns.foldl ControlChannel.enqueue (s.chan p) ∧ n ∈ ns

/-- The list of port `m` is due at the exchange frame start that brings the counter to `f` (R43). -/
abbrev Part.listDue (s : Part) (m : Port) (f : Half) : Prop :=
  (s.list m).target = some .next ∨ (s.list m).target = some (.frame f)

/-- The next exchange frame start is the one at which port `p` lapses (R28). -/
abbrev Part.lapses (s : Part) (p : Port) : Prop := s.inLock p = false ∧ s.lapseTimer p = 2047

/-- A frame of a port in lock is good when a pulse stands at position B and none was recorded before it
(R92). -/
abbrev PortUnit.endsWell (u : PortUnit) (pulse : Bool) : Prop := pulse = true ∧ u.misplaced = false

/-- Command `c` makes port `p`, in lock, leave lock to `dest` with `cause` and the counters `counts` (R90, R92,
R97, R99, R102): the clock watch; a fourth bad frame; the reply's frame end of a pending action, good or bad.
An outbound share of a frame start that is owing is settled before a frame end and is left out here. -/
def Part.leavesBy (s : Part) (p : Port) (c : Instr) (dest : LockState) (cause : PortCause)
    (counts : Counters) : Prop :=
  let u := s.port p
  (∃ sent : Nat, c = .clockWatchExpiry ⟨p, sent⟩ ∧ dest = .dark ∧ cause = .clockLost
      ∧ counts = { u.counters with lockLosses := u.counters.lockLosses + 1 })
    ∨ ∃ (pulse : Bool) (rest : List Byte) (share : FrameShare),
        c = .frameEnd p pulse rest share ∧ share ≠ .start ∧ u.owing = .nothing ∧ dest = .seek
          ∧ ((u.lock = .coast 3 ∧ ¬ u.endsWell pulse ∧ cause = .framingLost
                ∧ counts = { u.counters with
                    badFrames := u.counters.badFrames + 1, lockLosses := u.counters.lockLosses + 1 })
              ∨ (u.actionDue = true
                ∧ (u.endsWell pulse ∨ u.lock = .locked ∨ u.lock = .coast 1 ∨ u.lock = .coast 2)
                ∧ ((u.action = some .restart ∧ cause = .restart)
                  ∨ ∃ (n : SlotCount) (k : ControlSlot), u.action = some (.profile n k) ∧ cause = .profile)
                ∧ counts = { u.counters with
                    badFrames := u.counters.badFrames + (if u.endsWell pulse then 0 else 1) }))

/-- The reference record after the loss of the reference (R78, R85). -/
def RefUnit.afterLoss (r : RefUnit) : RefUnit :=
  { r with
    mode := if r.held.isSome then .holdover else .free
    tracked := none
    candidate := none
    count := 0
    realigning := false
    track := false }

/-- What the reference unit makes of `v`, in which port `p` has just left lock from `before`, is `t` (R74, R78,
R84): a candidate that was LOCKED is cleared; the tracked port is lost, and when the timer has reached the period
in use the next exchange frame start is taken at once; any other port changes nothing. That it comes after the
port's own effects, so that REFERENCE follows PORT_STATE, is the model's choice (log 19, log 25). -/
def Part.hearsLeaving (v : Part) (p : Port) (before : LockState) (t : Part) : Prop :=
  let r := v.ref
  let fallback : RefMode := if r.held.isSome then .holdover else .free
  let cleared : Prop := r.candidate = some p ∧ before = .locked
  let lost : Prop := ¬ cleared ∧ r.mode = .tracking ∧ r.tracked = some p
  let w : Part := ({ v with ref := r.afterLoss } : Part).raise
    (.reference fallback none none .referenceLost r.held v.exch.counter)
  (cleared → r.mode = .qualify →
      t = ({ v with ref := { r with mode := fallback, candidate := none, count := 0 } } : Part).raise
        (.reference fallback r.tracked none .candidateLost r.held v.exch.counter))
    ∧ (cleared → r.mode ≠ .qualify → t = { v with ref := { r with candidate := none, count := 0 } })
    ∧ (lost → r.timer < r.held.getD 2048 → t = w)
    ∧ (lost → r.held.getD 2048 ≤ r.timer →
        exec (.exchangeFrameStart .localTimer) ⟨w, []⟩ = .next ⟨t, []⟩)
    ∧ (¬ cleared → ¬ lost → t = v)

end Sys2Proof.Machine
end

