-- ==== Sys2Proof/Certificates/Slice0/Obligations.lean ====
section
/-! DEFINITION. The statements for the provers. Each docstring names the rules a statement formalises and
what in it is the model's own choice (log n is notes/assumptions/n.md). A frame is said by a record
equation: every field that the equation does not name is unchanged. -/

open Sys2Proof Sys2Proof.Machine

/-! ### Steps, time and device reset -/

/-- A step with a command waiting is exec of the front command with the queue's rest. The queue is the model's
own (log 2). -/
def Obligations.StepRunsTheFrontCommand : Prop :=
  ∀ (c : Instr) (rest : List Instr) (s : State),
    step { s with pending := c :: rest } = exec c { s with pending := rest }

/-- With no command waiting: nothing in device reset; else the arbiter's choice if it stands, else a local
exchange frame start that is due, else one oscillator period on the local frame timer. The order of the
three is the model's choice (log 3). -/
def Obligations.IdleStepLetsTimePass : Prop :=
  ∀ s : State, s.pending = [] →
    (s.part.inReset = true → step s = .next s)
    ∧ (s.part.inReset = false →
        (s.part.arbiterStands = true → step s = exec .arbiterChoice s)
        ∧ (s.part.arbiterStands = false → s.part.startDue .localTimer = true →
            step s = exec (.exchangeFrameStart .localTimer) s)
        ∧ (s.part.arbiterStands = false → s.part.startDue .localTimer = false →
            step s = .next { s with
              part := { s.part with ref := { s.part.ref with timer := s.part.ref.timer + 1 } } }))

/-- R70, R76: what an exchange frame start is taken at in each mode. In TRACKING a frame start of the
tracked port in lock, except one below 1024 periods while a realignment is in progress. -/
def Obligations.ModeDecidesWhatEndsTheFrame : Prop :=
  ∀ s : Part,
    (s.ref.mode = .free → s.startDue .localTimer = decide (2048 ≤ s.ref.timer))
    ∧ (s.ref.mode = .qualify → s.ref.held = none →
        s.startDue .localTimer = decide (2048 ≤ s.ref.timer))
    ∧ (∀ n, (s.ref.mode = .qualify ∨ s.ref.mode = .holdover) → s.ref.held = some n →
        s.startDue .localTimer = decide (n ≤ s.ref.timer))
    ∧ (s.ref.mode = .tracking → s.startDue .localTimer = false)
    ∧ (∀ q : Port, s.ref.mode ≠ .tracking → s.startDue (.frameStart q) = false)
    ∧ (∀ q : Port, s.ref.mode = .tracking →
        (s.startDue (.frameStart q) = true ↔
          s.ref.tracked = some q
            ∧ ((s.port q).lock = .locked ∨ ∃ n, (s.port q).lock = .coast n)
            ∧ (s.ref.realigning = true → 1024 ≤ s.ref.timer)))

/-- R168, R170: RESET_BEGIN of a running part takes every block to its reset values and drops what was in
flight. The level of LOAN_REQ is an input (log 21); the slot counts, the candidate list and the memory
size in the reset, and the local frame timer, are log 16's and not stated. -/
def Obligations.ResetBeginResetsEveryBlock : Prop :=
  ∀ s : State, s.part.inReset = false →
    ∃ t : State, exec .resetBegin s = .next t ∧ t.pending = s.pending ∧ t.part.inReset = true
      ∧ (∀ p : Port,
          (t.part.port p).lock = .dark ∧ (t.part.port p).hasLocked = false ∧ (t.part.port p).position = 0
            ∧ (t.part.port p).profile.controlSlot = .first ∧ (t.part.port p).profile.fill = 0xFF
            ∧ (t.part.port p).profile.depth = .two ∧ (t.part.port p).action = none
            ∧ (t.part.port p).received = []
            ∧ (t.part.port p).counters = ⟨0, 0, 0, 0, 0, 0, 0, 0, 0⟩ ∧ (t.part.port p).dout = .high)
      ∧ (∀ p : Port, t.part.inStores.get p = ⟨[], false, none, .two⟩
          ∧ t.part.outStores.get p = ⟨[], false, none, .two⟩)
      ∧ (t.part.ref.mode = .free ∧ t.part.ref.tracked = none ∧ t.part.ref.candidate = none
          ∧ t.part.ref.count = 0 ∧ t.part.ref.held = none ∧ t.part.ref.revertive = false
          ∧ t.part.ref.track = false)
      ∧ (∀ (p : Port) (i : Slot), t.part.entry p i = ⟨.idle, 0⟩)
      ∧ t.part.exch.counter = 0 ∧ t.part.exch.generation = 0
      ∧ (∀ o : ClaimObject, t.part.claims.holder o = none) ∧ (∀ p : Port, t.part.lapseTimer p = 0)
      ∧ (∀ p : Port, t.part.list p = ⟨[], none⟩)
      ∧ (∀ p : Port,
          (t.part.chan p).rx.state = .hunt ∧ (t.part.chan p).rx.partialMessage = none
            ∧ (t.part.chan p).rx.running = 0 ∧ (t.part.chan p).intake = [] ∧ (t.part.chan p).overrun = 0
            ∧ (t.part.chan p).replies = [] ∧ (t.part.chan p).notices = [] ∧ (t.part.chan p).lost = 0
            ∧ (t.part.chan p).sender = none ∧ (t.part.chan p).mask = 0x1D)
      ∧ (∀ k : Channel, t.part.channel k = ⟨.idle, none, none, 0xFF, 0, 0, [], 0, 0, 0⟩)
      ∧ t.part.play.cache = [] ∧ t.part.play.fetches = []
      ∧ t.part.mem.state = .idle ∧ t.part.mem.burst = none ∧ t.part.mem.pointer = 7
      ∧ t.part.mem.loanGnt = false ∧ t.part.mem.loanReq = s.part.mem.loanReq
      ∧ t.part.mem.quiet = true ∧ t.part.mem.mck = false ∧ t.part.mem.mdo = false

/-- R168, R169, R171: at the end of device reset the straps fix the slot counts, the candidate list and the
memory size, the local frame timer is 0, and a high LOAN_REQ is taken: LOANED with a memory strapped,
LOAN_GNT alone without. Every other field is as it was; no port is in lock, so no notice is queued. -/
def Obligations.ResetEndSamplesTheStraps : Prop :=
  ∀ (x : Straps) (s : State), s.part.inReset = true →
    (∀ p : Port, (s.part.port p).lock = .dark) → s.part.mem.state = .idle →
    s.part.mem.loanGnt = false →
    ∃ t : State, exec (.resetEnd x) s = .next t ∧ t.pending = s.pending ∧ t.part.inReset = false
      ∧ t.part.ref = { s.part.ref with timer := 0, list := t.part.ref.list }
      ∧ (x.rs2 = false → t.part.ref.list = [])
      ∧ (x.rs2 = true →
          ∃ p : Port, t.part.ref.list = [p] ∧ p.val = (if x.rs1 then 2 else 0) + (if x.rs0 then 1 else 0))
      ∧ (∀ p : Port, t.part.port p = { s.part.port p with
          profile := { (s.part.port p).profile with slotCount := (t.part.port p).profile.slotCount } })
      ∧ (t.part.port 0).profile.slotCount = (if x.sc0 then .s64 else .s32)
      ∧ (t.part.port 1).profile.slotCount = (if x.sc1 then .s64 else .s32)
      ∧ (t.part.port 2).profile.slotCount = (if x.sc2 then .s64 else .s32)
      ∧ (t.part.port 3).profile.slotCount = (if x.sc3 then .s64 else .s32)
      ∧ t.part.mem.size =
          (if x.ms1 then (if x.ms0 then .mib16 else .mib4) else (if x.ms0 then .mib1 else .none))
      ∧ t.part.mem = { s.part.mem with
          size := t.part.mem.size
          loanGnt := s.part.mem.loanReq
          state := if s.part.mem.loanReq = true ∧ t.part.mem.size ≠ .none then .loaned else .idle }
      ∧ t.part = { s.part with
          inReset := false, ports := t.part.ports, ref := t.part.ref, mem := t.part.mem }

/-- R168: while device reset lasts no command but RESET_END has an effect; a change of LOAN_REQ is only a
change of the input's level (log 21). -/
def Obligations.NothingIsTakenInReset : Prop :=
  ∀ (c : Instr) (s : State), s.part.inReset = true →
    (∀ x : Straps, c ≠ .resetEnd x) →
    (c ≠ .loanReqAssertion → c ≠ .loanReqRelease → exec c s = .next s)
    ∧ (c = .loanReqAssertion → exec c s =
        .next { s with part := { s.part with mem := { s.part.mem with loanReq := true } } })
    ∧ (c = .loanReqRelease → exec c s =
        .next { s with part := { s.part with mem := { s.part.mem with loanReq := false } } })

/-! ### The exchange frame start -/

/-- R6, R71: an exchange frame start that is due advances the counter by one and sets the local frame timer
to 0, and it leaves alone what it does not own: lock states, profiles, receivers, senders, queues of
requests and replies, masks, the cache, the fetches and the memory port. One that is not due has no effect
(log 1). -/
def Obligations.FrameStartAdvancesTheCounter : Prop :=
  ∀ (cause : StartCause) (s : State), s.part.inReset = false →
    (s.part.startDue cause = false → exec (.exchangeFrameStart cause) s = .next s)
    ∧ (s.part.startDue cause = true →
        ∃ t : State, exec (.exchangeFrameStart cause) s = .next t ∧ t.pending = s.pending
          ∧ t.part.exch.counter = s.part.exch.counter + 1
          ∧ t.part.ref.timer = 0 ∧ t.part.ref.lastStart = cause
          ∧ t.part.ref.list = s.part.ref.list ∧ t.part.ref.revertive = s.part.ref.revertive
          ∧ t.part.inReset = false ∧ t.part.mem = s.part.mem ∧ t.part.freeCount = s.part.freeCount
          ∧ t.part.play.cache = s.part.play.cache ∧ t.part.play.fetches = s.part.play.fetches
          ∧ s.part.onlyCountersMoved t.part ∧ s.part.onlyNoticesJoined t.part)

/-- R43 to R45, R5: at an exchange frame start every due list, and no other, is written into the map; the
generation advances once when an edit is written, and each written entry takes it; a list applied is
emptied and disarmed, and APPLIED reaches its master's port in lock. A list that is not due stays, unless
its master lapses at this start (R29). That a due list is written although its master lapses at this start
is the model's choice: the switchover comes first there (log 5). -/
def Obligations.SwitchoverWritesTheDueLists : Prop :=
  ∀ (cause : StartCause) (s : State), s.part.inReset = false → s.part.startDue cause = true →
    (∀ (m n : Port) (e f : Edit), e ∈ (s.part.list m).edits → f ∈ (s.part.list n).edits →
      e.port = f.port → e.slot = f.slot → e = f) →
    ∃ t : State, exec (.exchangeFrameStart cause) s = .next t
      ∧ ((∃ m, s.part.listDue m (s.part.exch.counter + 1) ∧ (s.part.list m).edits ≠ []) →
          t.part.exch.generation = s.part.exch.generation + 1)
      ∧ ((∀ m, s.part.listDue m (s.part.exch.counter + 1) → (s.part.list m).edits = []) →
          t.part.exch.generation = s.part.exch.generation)
      ∧ (∀ m, s.part.listDue m (s.part.exch.counter + 1) → ∀ e ∈ (s.part.list m).edits,
          t.part.entry e.port e.slot = ⟨e.source, s.part.exch.generation + 1⟩)
      ∧ (∀ (p : Port) (i : Slot),
          (∀ m, s.part.listDue m (s.part.exch.counter + 1) → ∀ e ∈ (s.part.list m).edits,
            ¬ (e.port = p ∧ e.slot = i)) →
          t.part.entry p i = s.part.entry p i)
      ∧ (∀ m, s.part.listDue m (s.part.exch.counter + 1) →
          t.part.list m = ⟨[], none⟩
          ∧ (s.part.inLock m = true →
              s.part.reached t.part m (.applied m t.part.exch.generation (s.part.exch.counter + 1)
                (s.part.list m).edits.length)))
      ∧ (∀ m, ¬ s.part.listDue m (s.part.exch.counter + 1) → ¬ s.part.lapses m →
          t.part.list m = s.part.list m)

/-- R10 to R15, R55: at an exchange frame start one frame is written into the outbound store of every port
in lock: a byte for every slot, from the map after the switchover, with the yields and playback bytes of
this start. The store of a port out of lock is left alone. -/
def Obligations.FramesAreAssembledFromTheNewMap : Prop :=
  ∀ (cause : StartCause) (s : State), s.part.inReset = false → s.part.startDue cause = true →
    ∃ t : State, exec (.exchangeFrameStart cause) s = .next t
      ∧ ∀ p : Port,
        (s.part.inLock p = false → t.part.outStores.get p = s.part.outStores.get p)
        ∧ (s.part.inLock p = true →
            ∃ f : Frame, f.length = (s.part.port p).profile.slots
              ∧ (∀ i : Slot, i.val < (s.part.port p).profile.slots → f[i.val]? = some
                  (if i.val = (s.part.port p).profile.control then (s.part.port p).profile.fill
                  else match (t.part.entry p i).source with
                    | .idle => (s.part.port p).profile.fill
                    | .constant v => v
                    | .inbound q j =>
                      (match (s.part.inStores.get q).yield with
                        | some g => g[j.val]?.getD (s.part.port q).profile.fill
                        | none => (s.part.port q).profile.fill)
                    | .playback k => (s.part.channel k).yield))
              ∧ t.part.outStores.get p =
                  (let old := s.part.outStores.get p
                  let queue := (if old.queue.length < 4 then old.queue else old.queue.tail) ++ [f]
                  { old with
                    queue := queue
                    primed := old.primed || decide (old.depth.toNat ≤ queue.length) }))

/-- R8, R58 to R61: at an exchange frame start every inbound store is read once, and the slips of this start
are counted: a repeat where a primed store was empty, a drop where an outbound store of a port in lock was
full. Each raises SLIP with its direction, its kind, the count just reached and this start's frame number. -/
def Obligations.InboundStoresAreReadOnce : Prop :=
  ∀ (cause : StartCause) (s : State), s.part.inReset = false → s.part.startDue cause = true →
    ∃ t : State, exec (.exchangeFrameStart cause) s = .next t
      ∧ ∀ q : Port,
        ((s.part.inStores.get q).primed = false →
          (s.part.inStores.get q).yield = none ∧ t.part.inStores.get q = s.part.inStores.get q)
        ∧ ((s.part.inStores.get q).primed = true → (s.part.inStores.get q).queue = [] →
            (s.part.inStores.get q).yield = (s.part.inStores.get q).last
            ∧ t.part.inStores.get q = s.part.inStores.get q)
        ∧ (∀ f rest, (s.part.inStores.get q).primed = true →
            (s.part.inStores.get q).queue = f :: rest →
            (s.part.inStores.get q).yield = some f
            ∧ t.part.inStores.get q =
                { s.part.inStores.get q with queue := rest, last := some f })
        ∧ (t.part.port q).counters = { (s.part.port q).counters with
            inRepeats := (s.part.port q).counters.inRepeats
              + (if (s.part.inStores.get q).primed = true ∧ (s.part.inStores.get q).queue = []
                then 1 else 0)
            outDrops := (s.part.port q).counters.outDrops
              + (if s.part.inLock q = true ∧ (s.part.outStores.get q).queue.length ≥ 4
                then 1 else 0) }
        ∧ (∀ x : Port, x ≠ q → s.part.inLock x = true → (s.part.chan x).mask.getLsbD 1 = true →
            ((s.part.inStores.get q).primed = true → (s.part.inStores.get q).queue = [] →
              s.part.reached t.part x (.slip q .inbound .repeated
                ((s.part.port q).counters.inRepeats + 1) (s.part.exch.counter + 1)))
            ∧ (s.part.inLock q = true → (s.part.outStores.get q).queue.length ≥ 4 →
              s.part.reached t.part x (.slip q .outbound .dropped
                ((s.part.port q).counters.outDrops + 1) (s.part.exch.counter + 1))))

/-- R152, R153, R155: at an exchange frame start one byte is taken from every channel. A PLAYING channel
with bytes queued gives its head and moves on, to ENDED with a PLAYBACK notice after the last byte of a
ONCE pattern; one with an empty queue counts an underrun; every other channel is left alone. -/
def Obligations.PlaybackBytesAreTaken : Prop :=
  ∀ (cause : StartCause) (s : State), s.part.inReset = false → s.part.startDue cause = true →
    ∃ t : State, exec (.exchangeFrameStart cause) s = .next t
      ∧ ∀ k : Channel,
        ((s.part.channel k).state ≠ .playing →
          (s.part.channel k).yield = (s.part.channel k).rest
            ∧ t.part.channel k = s.part.channel k)
        ∧ ((s.part.channel k).state = .playing → (s.part.channel k).queue = [] →
            (s.part.channel k).yield = (s.part.channel k).rest
            ∧ t.part.channel k =
                { s.part.channel k with underruns := (s.part.channel k).underruns + 1 })
        ∧ (∀ b rest d, (s.part.channel k).state = .playing → (s.part.channel k).queue = b :: rest →
            (s.part.channel k).desc = some d →
            (s.part.channel k).yield = b
            ∧ ((s.part.channel k).position + 1 ≠ d.length.toNat →
                t.part.channel k = { s.part.channel k with
                  queue := rest, position := (s.part.channel k).position + 1 })
            ∧ ((s.part.channel k).position + 1 = d.length.toNat → d.mode = .loop →
                t.part.channel k = { s.part.channel k with
                  queue := rest, position := d.loopOffset.toNat })
            ∧ ((s.part.channel k).position + 1 = d.length.toNat → d.mode = .once →
                t.part.channel k = { s.part.channel k with
                  queue := rest, position := d.length.toNat, state := .ended }
                ∧ ∀ h : Port, s.part.claims.holder (.channel k) = some h → s.part.inLock h = true →
                    s.part.reached t.part h
                      (.playback k .ended (s.part.channel k).pattern (s.part.exch.counter + 1))))

/-- R28 to R31: at an exchange frame start the lapse timer of a port out of lock and below 2048 counts; on
reaching 2048 its holding becomes free, its list is emptied and CLAIMS_FREED reaches the other ports in
lock whose masks include it. Every other holder stays. -/
def Obligations.LapseTimersCountFrameStarts : Prop :=
  ∀ (cause : StartCause) (s : State), s.part.inReset = false → s.part.startDue cause = true →
    ∃ t : State, exec (.exchangeFrameStart cause) s = .next t
      ∧ (∀ p : Port, t.part.lapseTimer p =
          if s.part.inLock p = false ∧ s.part.lapseTimer p < 2048 then s.part.lapseTimer p + 1
          else s.part.lapseTimer p)
      ∧ (∀ (o : ClaimObject) (p : Port), s.part.claims.holder o = some p → s.part.lapses p →
          t.part.claims.holder o = none)
      ∧ (∀ o : ClaimObject, (∀ p : Port, s.part.claims.holder o = some p → ¬ s.part.lapses p) →
          t.part.claims.holder o = s.part.claims.holder o)
      ∧ (∀ p : Port, s.part.lapses p → t.part.list p = ⟨[], none⟩)
      ∧ (∀ p q : Port, s.part.lapses p → (∃ o, s.part.claims.holder o = some p) →
          s.part.inLock q = true → (s.part.chan q).mask.getLsbD 3 = true →
          s.part.reached t.part q (.claimsFreed p (s.part.claims.holding p).length))

/-! ### The reference unit -/

/-- R73, R75, R84: selection at a local exchange frame start in FREE, HOLDOVER and QUALIFY, by the table of
R73; at the 64th count the switch of R75. CHOSEN and QUALIFIED reach every port in lock whose mask
includes REFERENCE. A candidate with no port found cannot arise (R73) and is not stated. -/
def Obligations.SelectionPicksTheFirstLockedPort : Prop :=
  ∀ s : State, s.part.inReset = false → s.part.ref.mode ≠ .tracking →
    s.part.startDue .localTimer = true →
    ∃ t : State, exec (.exchangeFrameStart .localTimer) s = .next t
      ∧ (let r := { s.part.ref with timer := 0, lastStart := .localTimer, realigning := false }
        let found := s.part.ref.list.find? fun p => decide ((s.part.port p).lock = .locked)
        (found = none → s.part.ref.candidate = none → t.part.ref = r)
        ∧ (∀ h, found = some h → s.part.ref.candidate ≠ some h →
            t.part.ref = { r with mode := .qualify, candidate := some h, count := 0 }
            ∧ (s.part.ref.mode ≠ .qualify →
                ∀ p : Port, s.part.inLock p = true → (s.part.chan p).mask.getLsbD 2 = true →
                  s.part.reached t.part p (.reference .qualify s.part.ref.tracked (some h) .chosen
                    s.part.ref.held (s.part.exch.counter + 1))))
        ∧ (∀ h, found = some h → s.part.ref.candidate = some h → s.part.ref.count + 1 ≠ 64 →
            t.part.ref = { r with count := s.part.ref.count + 1 })
        ∧ (∀ h, found = some h → s.part.ref.candidate = some h → s.part.ref.count + 1 = 64 →
            t.part.ref = { r with
              mode := .tracking, tracked := some h, candidate := none, count := 0
              realigning := true, track := true }
            ∧ ∀ p : Port, s.part.inLock p = true → (s.part.chan p).mask.getLsbD 2 = true →
                s.part.reached t.part p (.reference .tracking (some h) none .qualified
                  s.part.ref.held (s.part.exch.counter + 1))))

/-- R79: selection at an exchange frame start in TRACKING: with the revertive flag ON by the table of R79,
with it OFF nothing is found and the candidate part of the record is left, where by EveryStepKeepsTheReferenceLaws
it is absent. The held period after the start
is stated by TrackedStartsAreMeasured. That the QUALIFIED notice of the switch carries the held period with the
measurement of that same start in it is the model's choice: R84 gives no order of measurement and selection
(log 35). -/
def Obligations.RevertiveSelectionInTracking : Prop :=
  ∀ (s : State) (q : Port), s.part.inReset = false → s.part.ref.mode = .tracking →
    s.part.ref.tracked = some q → s.part.startDue (.frameStart q) = true →
    ∃ t : State, exec (.exchangeFrameStart (.frameStart q)) s = .next t
      ∧ (let r := { s.part.ref with
          held := t.part.ref.held, timer := 0, lastStart := .frameStart q, realigning := false }
        let found := (s.part.ref.list.takeWhile fun p => decide (p ≠ q)).find?
          fun p => decide ((s.part.port p).lock = .locked)
        (s.part.ref.revertive = false → t.part.ref = r)
        ∧ (s.part.ref.revertive = true → found = none →
            t.part.ref = { r with candidate := none, count := 0 })
        ∧ (∀ h, s.part.ref.revertive = true → found = some h → s.part.ref.candidate ≠ some h →
            t.part.ref = { r with candidate := some h, count := 0 })
        ∧ (∀ h, s.part.ref.revertive = true → found = some h → s.part.ref.candidate = some h →
            s.part.ref.count + 1 ≠ 64 → t.part.ref = { r with count := s.part.ref.count + 1 })
        ∧ (∀ h, s.part.ref.revertive = true → found = some h → s.part.ref.candidate = some h →
            s.part.ref.count + 1 = 64 →
            t.part.ref = { r with
              tracked := some h, candidate := none, count := 0, realigning := true, track := true }
            ∧ ∀ p : Port, s.part.inLock p = true → (s.part.chan p).mask.getLsbD 2 = true →
                s.part.reached t.part p (.reference .tracking (some h) none .qualified
                  t.part.ref.held (s.part.exch.counter + 1))))

/-- R72, R76: at a frame start of the tracked port whose previous exchange frame start was one too, a count
of 2028 to 2068 periods replaces the held period; any other count, and the realigning start, leave it.
Below 1024 periods a frame start during a realignment is no exchange frame start. -/
def Obligations.TrackedStartsAreMeasured : Prop :=
  ∀ (s : State) (q : Port), s.part.inReset = false → s.part.ref.mode = .tracking →
    s.part.ref.tracked = some q → s.part.inLock q = true →
    (s.part.ref.realigning = true → s.part.ref.timer < 1024 →
      exec (.exchangeFrameStart (.frameStart q)) s = .next s)
    ∧ (s.part.ref.realigning = true → 1024 ≤ s.part.ref.timer →
        ∃ t : State, exec (.exchangeFrameStart (.frameStart q)) s = .next t
          ∧ t.part.ref.held = s.part.ref.held ∧ t.part.ref.timer = 0
          ∧ t.part.exch.counter = s.part.exch.counter + 1)
    ∧ (s.part.ref.realigning = false →
        ∃ t : State, exec (.exchangeFrameStart (.frameStart q)) s = .next t
          ∧ t.part.exch.counter = s.part.exch.counter + 1
          ∧ (s.part.ref.lastStart = .frameStart q → 2028 ≤ s.part.ref.timer →
              s.part.ref.timer ≤ 2068 → t.part.ref.held = some s.part.ref.timer)
          ∧ (s.part.ref.lastStart ≠ .frameStart q ∨ s.part.ref.timer < 2028
              ∨ 2068 < s.part.ref.timer → t.part.ref.held = s.part.ref.held))

/-- R75, R79: QUALIFIED and REVERTIVE_SWITCH are the exchange frame start at which the count reaches 64:
the unit switches to the candidate, a realignment begins and TRACK is high. All else is as at
EXCHANGE_FRAME_START at the same cause (log 6). -/
def Obligations.TheSixtyFourthStartSwitches : Prop :=
  ∀ (s : State) (h : Port), s.part.inReset = false → s.part.ref.candidate = some h →
    s.part.ref.count = 63 →
    (s.part.ref.mode = .qualify →
      s.part.ref.list.find? (fun p => decide ((s.part.port p).lock = .locked)) = some h →
      s.part.startDue .localTimer = true →
      ∃ t : State, exec .qualified s = .next t
        ∧ exec (.exchangeFrameStart .localTimer) s = .next t
        ∧ t.part.ref = { s.part.ref with
            mode := .tracking, tracked := some h, candidate := none, count := 0
            timer := 0, realigning := true, lastStart := .localTimer, track := true })
    ∧ (∀ q : Port, s.part.ref.mode = .tracking → s.part.ref.tracked = some q →
        s.part.ref.revertive = true →
        (s.part.ref.list.takeWhile fun p => decide (p ≠ q)).find?
          (fun p => decide ((s.part.port p).lock = .locked)) = some h →
        s.part.startDue (.frameStart q) = true →
        ∃ t : State, exec .revertiveSwitch s = .next t
          ∧ exec (.exchangeFrameStart (.frameStart q)) s = .next t
          ∧ t.part.ref = { s.part.ref with
              tracked := some h, candidate := none, count := 0, held := t.part.ref.held
              timer := 0, realigning := true, lastStart := .frameStart q, track := true })

/-! ### The claim unit's lapse -/

/-- R28 to R31: LAPSE of port p is the exchange frame start at which p lapses: p is out of lock with its timer
at 2047, and a start is due at the local timer or, with a tracked port, at its frame start. Otherwise nothing
changes. At that start the lapse of p, and of every port of `also` that lapses at it, is first: the timer
stands at 2048, the holding is free, the list is emptied and disarmed with no notice, and CLAIMS_FREED is
raised when an object was freed. Then the start is taken from the part so left (u), as
EXCHANGE_FRAME_START takes it: with no other due list the map stays. That LAPSE is this start, with the
lapses of the ports it names ahead of the switchover, is the model's choice (log 5). -/
def Obligations.LapseFreesTheHolding : Prop :=
  ∀ (p : Port) (also : List Port) (s : State) (cause : StartCause), s.part.inReset = false →
    (s.part.ref.tracked = none → cause = .localTimer) →
    (∀ q, s.part.ref.tracked = some q → cause = .frameStart q) →
    (s.part.startDue cause = false ∨ s.part.inLock p = true ∨ s.part.lapseTimer p ≠ 2047 →
      exec (.lapse ⟨p, also⟩) s = .next s)
    ∧ (s.part.startDue cause = true → s.part.lapses p →
        let first := fun q : Port => (q = p ∨ q ∈ also) ∧ s.part.lapses q
        ∃ u t : State, exec (.lapse ⟨p, also⟩) s = .next t
          ∧ exec (.exchangeFrameStart cause) u = .next t
          ∧ u.pending = s.pending ∧ t.pending = s.pending
          ∧ (∀ q, first q → u.part.lapseTimer q = 2048 ∧ u.part.list q = ⟨[], none⟩)
          ∧ (∀ q, ¬ first q → u.part.lapseTimer q = s.part.lapseTimer q ∧ u.part.list q = s.part.list q)
          ∧ (∀ (o : ClaimObject) (q : Port), s.part.claims.holder o = some q → first q →
              u.part.claims.holder o = none)
          ∧ (∀ o : ClaimObject, (∀ q, s.part.claims.holder o = some q → ¬ first q) →
              u.part.claims.holder o = s.part.claims.holder o)
          ∧ s.part.onlyNoticesJoined u.part
          ∧ (∀ q r : Port, first q → (∃ o, s.part.claims.holder o = some q) →
              s.part.inLock r = true → (s.part.chan r).mask.getLsbD 3 = true →
              s.part.reached u.part r (.claimsFreed q (s.part.claims.holding q).length))
          ∧ ((∀ q, first q → q = p) → (∃ o, s.part.claims.holder o = some p) →
              u.part.chans = (s.part.raise (.claimsFreed p (s.part.claims.holding p).length)).chans)
          ∧ ((∀ (q : Port) (o : ClaimObject), first q → s.part.claims.holder o ≠ some q) →
              u.part.chans = s.part.chans)
          ∧ u.part = { s.part with
              claims := u.part.claims, lists := u.part.lists, chans := u.part.chans }
          ∧ t.part.exch.counter = s.part.exch.counter + 1
          ∧ (∀ q, first q → t.part.lapseTimer q = 2048 ∧ t.part.list q = ⟨[], none⟩)
          ∧ (∀ (o : ClaimObject) (q : Port), s.part.claims.holder o = some q → first q →
              t.part.claims.holder o = none)
          ∧ ((∀ m, s.part.listDue m (s.part.exch.counter + 1) → first m) →
              t.part.exch.map = s.part.exch.map
                ∧ t.part.exch.generation = s.part.exch.generation))

/-! ### Port units -/

/-- R90, R99, R96: the first edge of BCKp in DARK moves the port to SEEK, where DOUTp carries the fill byte; 250
microseconds without an edge move a port in SEEK or CONFIRM to DARK, where DOUTp holds the level it last
had: that of the last bit of the fill byte driven, or the level before the first. PORT_STATE is raised with
its cause and the frame last reached. The inbound frame in progress is empty (R91, R95). Nothing else changes.
The model's choice: that the command carries the number of bits driven (log 13), position 0 in DARK and SEEK
(log 10), and that what the model holds of a frame is clear there (log 9, log 23). -/
def Obligations.ClockFoundAndLostOutOfLock : Prop :=
  ∀ (p : Port) (sent : Nat) (s : State), s.part.inReset = false →
    ((s.part.port p).lock = .dark →
      ∃ t : State, exec (.clockFound p) s = .next t ∧ t.pending = s.pending
        ∧ (t.part.port p).lock = .seek
        ∧ (t.part.port p).dout = .pattern (s.part.port p).dout.atEnd
        ∧ ((s.part.port p).dout = .high → (t.part.port p).dout = .pattern true)
        ∧ (∀ level, (s.part.port p).dout = .held level → (t.part.port p).dout = .pattern level)
        ∧ t.part.port p = { s.part.port p with
            lock := .seek, dout := (t.part.port p).dout
            position := 0, received := [], actionDue := false, misplaced := false, owing := .nothing }
        ∧ t.part = { s.part with
            ports := s.part.ports.set p (t.part.port p)
            chans := (s.part.raise (.portState p .dark .seek .clockFound
              (s.part.port p).counters.lockLosses s.part.exch.counter)).chans })
    ∧ (((s.part.port p).lock = .seek ∨ ∃ n, (s.part.port p).lock = .confirm n) →
        ∃ t : State, exec (.clockWatchExpiry ⟨p, sent⟩) s = .next t ∧ t.pending = s.pending
          ∧ (t.part.port p).lock = .dark
          ∧ (t.part.port p).dout = .held (s.part.doutLevel p sent)
          ∧ (∀ before, (s.part.port p).dout = .pattern before → sent = 0 →
              (t.part.port p).dout = .held before)
          ∧ (∀ before n, (s.part.port p).dout = .pattern before → sent = n + 1 →
              (t.part.port p).dout = .held ((s.part.port p).profile.fill.getMsbD (n % 8)))
          ∧ t.part.port p = { s.part.port p with
              lock := .dark, dout := (t.part.port p).dout
              position := 0, received := [], actionDue := false, misplaced := false, owing := .nothing }
          ∧ t.part = { s.part with
              ports := s.part.ports.set p (t.part.port p)
              chans := (s.part.raise (.portState p (s.part.port p).lock .dark .clockLost
                (s.part.port p).counters.lockLosses s.part.exch.counter)).chans })

/-- R90, R97, R63, R120, R99: 250 microseconds without an edge make a port in lock leave lock to DARK: its
stores are flushed with the profile's prime depth, its channel forgets all but its mask, the lock-loss
counter rises, PORT_STATE is raised, and DOUTp holds the level of the last bit driven of the outbound frame,
or the level before its first bit. The part so left (v) is as the reference unit then hears of the leaving
(R74, R78): at a port that is neither tracked nor a candidate nothing more changes. Stated for a port with no
pending action; RestartTakesEffect and ProfileChangeTakesEffect state the others. The model's choice: the order
of the leaving's effects, with PORT_STATE in a notice queue ahead of REFERENCE (v, and then the reference unit;
log 19, log 25), the number of bits driven (log 13), the running check 00H of the receiver (log 33), and what
is left in DARK of the fields of a frame (log 9, log 10, log 23). -/
def Obligations.ClockWatchLeavesLock : Prop :=
  ∀ (p : Port) (sent : Nat) (s : State), s.part.inReset = false → s.part.inLock p = true →
    (s.part.port p).action = none →
    ∃ (t : State) (v : Part), exec (.clockWatchExpiry ⟨p, sent⟩) s = .next t ∧ t.pending = s.pending
      ∧ v.hearsLeaving p (s.part.port p).lock t.part
      ∧ (v.port p).lock = .dark ∧ (v.port p).dout = .held (s.part.doutLevel p sent)
      ∧ (∀ before f, (s.part.port p).dout = .frame before f → sent = 0 →
          (v.port p).dout = .held before)
      ∧ (∀ before f i j b, (s.part.port p).dout = .frame before f → f[i]? = some b → j < 8 →
          sent = 8 * i + j + 1 → (v.port p).dout = .held (b.getMsbD j))
      ∧ v.port p = { s.part.port p with
          lock := .dark, dout := (v.port p).dout
          position := 0, received := [], actionDue := false, misplaced := false, owing := .nothing
          counters := { (s.part.port p).counters with
            lockLosses := (s.part.port p).counters.lockLosses + 1 } }
      ∧ v.inStores = s.part.inStores.set p ⟨[], false, none, (s.part.port p).profile.depth⟩
      ∧ v.outStores = s.part.outStores.set p ⟨[], false, none, (s.part.port p).profile.depth⟩
      ∧ v.chan p =
          ⟨⟨.hunt, none, 0⟩, [], 0, [], [], 0, none, (s.part.chan p).mask⟩
      ∧ (∀ q : Port, q ≠ p → v.chan q =
          (s.part.raise (.portState p (s.part.port p).lock .dark .clockLost
            ((s.part.port p).counters.lockLosses + 1) s.part.exch.counter)).chan q)
      ∧ v = { s.part with
          ports := s.part.ports.set p (v.port p)
          inStores := v.inStores, outStores := v.outStores, chans := v.chans }

/-- R91, R92: a pulse in SEEK begins CONFIRM with good count 0; in CONFIRM a pulse at position B raises the
count, one at 1 to B - 1 begins CONFIRM anew, and none at B returns the port to SEEK; in LOCKED and COAST
a pulse at 1 to B - 1 is recorded and moves nothing. No notice is raised. That the position is 0 in SEEK,
where R88 gives it no meaning, is the model's choice (log 10). -/
def Obligations.PulsesAcquireTheFrame : Prop :=
  ∀ (p : Port) (position sent : Nat) (deferStart : Bool) (s : State), s.part.inReset = false →
    (let u := s.part.port p
    let b := 8 * u.profile.slots
    (u.lock = .seek → exec (.framePulse p ⟨position, sent⟩ deferStart) s = .next { s with part := { s.part with
        ports := s.part.ports.set p { u with lock := .confirm 0, position := 0 } } })
    ∧ (u.lock = .confirm 0 → position = b →
        exec (.framePulse p ⟨position, sent⟩ deferStart) s = .next { s with part := { s.part with
          ports := s.part.ports.set p { u with lock := .confirm 1, position := 0 } } })
    ∧ (∀ n, u.lock = .confirm n → 1 ≤ position → position ≤ b - 1 →
        exec (.framePulse p ⟨position, sent⟩ deferStart) s = .next { s with part := { s.part with
          ports := s.part.ports.set p { u with lock := .confirm 0, position := 0 } } })
    ∧ (∀ n, u.lock = .confirm n →
        exec (.confirmMissingPulse p) s = .next { s with part := { s.part with
          ports := s.part.ports.set p { u with lock := .seek, position := 0 } } })
    ∧ (s.part.inLock p = true → 1 ≤ position → position ≤ b - 1 →
        exec (.framePulse p ⟨position, sent⟩ deferStart) s = .next { s with part := { s.part with
          ports := s.part.ports.set p { u with misplaced := true, position := position } } }))

/-- R93, R94, R96, R121: the second well-spaced pulse locks the port: no inbound completion, the lapse timer
set to 0, PORT_STATE raised for the others, and an outbound frame start that finds an unprimed store and
an empty channel and so sends the fill byte with 00H in the control slot, after the level DOUTp has. With
`deferStart` the outbound frame start is left owing (log 9). That the command carries the number of bits
driven is the model's choice (log 13). -/
def Obligations.SecondGoodSpacingLocks : Prop :=
  ∀ (p : Port) (sent : Nat) (deferStart : Bool) (s : State), s.part.inReset = false →
    (s.part.port p).lock = .confirm 1 → (s.part.outStores.get p).primed = false →
    (s.part.chan p).sender = none → (s.part.chan p).replies = [] → (s.part.chan p).notices = [] →
    (let u := s.part.port p
    let f := u.profile
    let level := s.part.doutLevel p sent
    exec (.framePulse p ⟨8 * f.slots, sent⟩ deferStart) s = .next { s with part := { s.part with
      ports := s.part.ports.set p { u with
        lock := .locked, hasLocked := true, position := 0, misplaced := false, received := []
        owing := if deferStart then .start else .nothing
        dout := if deferStart then .held level
          else .frame level ((List.replicate f.slots f.fill).set f.control 0) }
      claims := { s.part.claims with lapse := s.part.claims.lapse.set p 0 }
      chans := (s.part.raise (.portState p (.confirm 1) .locked .frameFound
        u.counters.lockLosses s.part.exch.counter)).chans } })

/-- R92, R53, R55, R61, R74, R94: a frame end in LOCKED or COAST that is a frame start, its inbound share (log
9): the lock state by the table of R92, the bad frame counter, and the frame that has ended written into
the inbound store, a drop raising SLIP. A candidate that leaves LOCKED here is cleared; in QUALIFY
CANDIDATE_LOST is raised. The whole frame end is this share and then the outbound one; where the outbound
share was taken ahead, which in COAST(3) only a good end allows, it is this share alone. Stated for a whole
frame of bytes; an outbound share of the frame start before is taken first (OutboundFrameStartsSendOneFrame).
-/
def Obligations.FrameEndsAreJudgedAndCompleted : Prop :=
  ∀ (p : Port) (pulse good : Bool) (rest : List Byte) (s : State), s.part.inReset = false →
    s.part.inLock p = true →
    (let u := s.part.port p
    let fallback : RefMode := if s.part.ref.held.isSome then .holdover else .free
    ((u.owing = .nothing ∧ ¬ (u.actionDue = true ∧ u.action ≠ none)) ∨ u.owing = .completion) →
    (u.received ++ rest).length = u.profile.slots →
    (good = true ↔ u.endsWell pulse ∨ (u.owing = .completion ∧ u.lock = .coast 3)) →
    (good = true ∨ u.lock = .locked ∨ u.lock = .coast 1 ∨ u.lock = .coast 2) →
    ∃ t : State, exec (.frameEnd p pulse rest .completion) s = .next t ∧ t.pending = s.pending
      ∧ (good = true → (t.part.port p).lock = .locked)
      ∧ (good = false →
          (u.lock = .locked → (t.part.port p).lock = .coast 1)
          ∧ (u.lock = .coast 1 → (t.part.port p).lock = .coast 2)
          ∧ (u.lock = .coast 2 → (t.part.port p).lock = .coast 3))
      ∧ t.part.port p = { u with
          lock := (t.part.port p).lock, position := 0, misplaced := false, received := []
          owing := if u.owing = .completion then .nothing else .start
          counters := { u.counters with
            badFrames := u.counters.badFrames + (if good then 0 else 1)
            inDrops := u.counters.inDrops
              + (if (s.part.inStores.get p).queue.length ≥ 4 then 1 else 0) } }
      ∧ t.part.inStores = s.part.inStores.set p
          (let old := s.part.inStores.get p
          let queue := (if old.queue.length < 4 then old.queue else old.queue.tail)
            ++ [u.received ++ rest]
          { old with
            queue := queue
            primed := old.primed || decide (old.depth.toNat ≤ queue.length) })
      ∧ ((s.part.inStores.get p).queue.length ≥ 4 →
          ∀ q : Port, q ≠ p → s.part.inLock q = true → (s.part.chan q).mask.getLsbD 1 = true →
            s.part.reached t.part q
              (.slip p .inbound .dropped (u.counters.inDrops + 1) s.part.exch.counter))
      ∧ (¬ (s.part.ref.candidate = some p ∧ u.lock = .locked ∧ good = false) →
          t.part.ref = s.part.ref)
      ∧ (s.part.ref.candidate = some p → u.lock = .locked → good = false →
          t.part.ref = { s.part.ref with
            candidate := none, count := 0
            mode := if s.part.ref.mode = .qualify then fallback else s.part.ref.mode }
          ∧ (s.part.ref.mode = .qualify →
              ∀ q : Port, s.part.inLock q = true → (s.part.chan q).mask.getLsbD 2 = true →
                s.part.reached t.part q (.reference fallback s.part.ref.tracked none .candidateLost
                  s.part.ref.held s.part.exch.counter)))
      ∧ t.part.claims = { s.part.claims with
          lapse := if u.lock ≠ .locked ∧ good = true
            then s.part.claims.lapse.set p 0 else s.part.claims.lapse }
      ∧ s.part.onlyNoticesJoined t.part
      ∧ t.part = { s.part with
          ports := s.part.ports.set p (t.part.port p), inStores := t.part.inStores
          ref := t.part.ref, claims := t.part.claims, chans := t.part.chans }
      ∧ (u.owing = .completion → exec (.frameEnd p pulse rest .whole) s = .next t)
      ∧ (u.owing = .nothing →
          exec (.frameEnd p pulse rest .whole) s = exec (.frameEnd p pulse rest .start) t))

/-- R57, R58, R61, R92, R94, R96, R102, R117: the outbound share of a frame start (log 9): the outbound store is
read once, a repeat raising SLIP, and DOUTp begins the frame it yields, or the fill byte, with the sender's
byte in the control slot: the next byte of the message in progress, or the idle byte when nothing waits. It
is taken when it is owing, before the next frame end, or ahead of the completion; at a fourth bad frame and
at the reply's frame end, which are no frame starts, it is not. Where a free sender has a reply waiting it is
REPLY_START; the main clause leaves out only the taking of waiting requests there (RepliesAndNoticesStart).
Nothing else of the port changes, no channel but by the notices that join, and nothing else of the part. -/
def Obligations.OutboundFrameStartsSendOneFrame : Prop :=
  ∀ (p : Port) (pulse : Bool) (rest : List Byte) (s : State), s.part.inReset = false →
    s.part.inLock p = true →
    (let u := s.part.port p
    let old := s.part.outStores.get p
    let c := s.part.chan p
    let outcome := exec (.frameEnd p pulse rest .start) s
    let replyEnd : Prop := u.actionDue = true ∧ u.action ≠ none
    let startsFrame : Prop := ¬ replyEnd
      ∧ (u.endsWell pulse ∨ u.lock = .locked ∨ u.lock = .coast 1 ∨ u.lock = .coast 2)
    (u.owing = .completion → outcome = .next s)
    ∧ (u.owing = .nothing → replyEnd ∨ (u.lock = .coast 3 ∧ ¬ u.endsWell pulse) → outcome = .next s)
    ∧ (u.owing = .start ∨ (u.owing = .nothing ∧ startsFrame) → c.sender = none → c.replies ≠ [] →
        outcome = exec (.replyStart p) s)
    ∧ (u.owing = .start ∨ (u.owing = .nothing ∧ startsFrame) →
        (c.sender = none → c.replies ≠ [] → c.intake = []) →
        ∃ t : State, outcome = .next t ∧ t.pending = s.pending
          ∧ (old.primed = false → t.part.outStores = s.part.outStores)
          ∧ (old.primed = true → old.queue = [] → t.part.outStores = s.part.outStores)
          ∧ (∀ f more, old.primed = true → old.queue = f :: more → t.part.outStores =
              s.part.outStores.set p { old with queue := more, last := some f })
          ∧ (t.part.port p).counters = { u.counters with
              outRepeats := u.counters.outRepeats
                + (if old.primed = true ∧ old.queue = [] then 1 else 0) }
          ∧ (old.primed = true → old.queue = [] →
              ∀ q : Port, q ≠ p → s.part.inLock q = true → (s.part.chan q).mask.getLsbD 1 = true →
                s.part.reached t.part q
                  (.slip p .outbound .repeated (u.counters.outRepeats + 1) s.part.exch.counter))
          ∧ t.part.port p = { u with
              owing := if u.owing = .start then .nothing else .completion
              dout := (t.part.port p).dout, counters := (t.part.port p).counters
              actionDue := (t.part.port p).actionDue }
          ∧ s.part.onlyNoticesJoined { t.part with chans := t.part.chans.set p c }
          ∧ t.part = { s.part with
              ports := s.part.ports.set p (t.part.port p), outStores := t.part.outStores
              chans := t.part.chans }
          ∧ (∃ control : Byte,
              (∀ f more, old.primed = true → old.queue = f :: more →
                (t.part.port p).dout = .frame u.dout.atEnd (f.set u.profile.control control))
              ∧ (∀ f, old.primed = true → old.queue = [] → old.last = some f →
                (t.part.port p).dout = .frame u.dout.atEnd (f.set u.profile.control control))
              ∧ (old.primed = false → (t.part.port p).dout = .frame u.dout.atEnd
                ((List.replicate u.profile.slots u.profile.fill).set u.profile.control control))
              ∧ (∀ before f b, u.dout = .frame before (f ++ [b]) → u.dout.atEnd = b.getMsbD 7)
              ∧ (∀ m, c.sender = some m → m.message[m.placed]? = some control
                ∨ m.message.length ≤ m.placed)
              ∧ (c.sender = none → (c.replies ≠ [] ∨ c.notices ≠ []) → control = 0xD2)
              ∧ (c.sender = none → c.replies = [] → c.notices = [] → control = 0x00))
          ∧ (∀ m, c.sender = some m → t.part.chan p = { c with
              sender := if m.placed + 1 < m.message.length
                then some { m with placed := m.placed + 1 } else none }
              ∧ (t.part.port p).actionDue = (u.actionDue
                  || (m.marked && decide (m.message.length ≤ m.placed + 1))))
          ∧ (c.sender = none → (t.part.port p).actionDue = u.actionDue)
          ∧ (c.sender = none → c.replies = [] → c.notices = [] → t.part.chan p = c)
          ∧ (u.owing = .start → ∀ share : FrameShare, share ≠ .start →
              exec (.frameEnd p pulse rest share) s = exec (.frameEnd p pulse rest share) t)))

/-- R117, R112, R106, R111, R57, R123 to R125, R128, R131: REPLY_START and NOTICE_START are the outbound share of a frame start, taken
while it is owing or ahead of the completion (the model's choice, log 9), at which a free sender begins a
message: the head reply with the overrun tally in its overrun field, or with no reply waiting the head
notice. The store is read once, the sync byte goes into the control slot of the frame it yields, and the
message is held with one byte placed. A request that waits in the intake is taken in the place that the
reply frees: one is taken as though it completed at once after; of two the first is taken and fills the
reply queue, and the second waits (what a message of each of the sixteen kinds does is its request:
FramedMessagesAreReceivedWhole). The framing with its check byte, the status codes and the layout and codes
of every notice are written out (R106, R124, R125, R131). That the taking comes after the store's read is the
model's choice (log 32). -/
def Obligations.RepliesAndNoticesStart : Prop :=
  ∀ (p : Port) (s : State), s.part.inReset = false → s.part.inLock p = true →
    (s.part.chan p).sender = none →
    (let u := s.part.port p
    let old := s.part.outStores.get p
    let c := s.part.chan p
    let startsFrame : Prop := ¬ (u.actionDue = true ∧ u.action ≠ none)
      ∧ (u.misplaced = false ∨ u.lock = .locked ∨ u.lock = .coast 1 ∨ u.lock = .coast 2)
    let sends : State → ControlChannel → Prop := fun t d =>
      t.pending = s.pending ∧ t.part.chan p = d
        ∧ t.part.port p = { u with
            owing := if u.owing = .start then .nothing else .completion
            dout := .frame u.dout.atEnd ((old.yield.getD
              (List.replicate u.profile.slots u.profile.fill)).set u.profile.control 0xD2)
            counters := { u.counters with
              outRepeats := u.counters.outRepeats
                + (if old.primed = true ∧ old.queue = [] then 1 else 0) } }
        ∧ t.part.outStores = s.part.outStores.set p old.read
        ∧ s.part.onlyNoticesJoined { t.part with chans := t.part.chans.set p c }
        ∧ t.part = { s.part with
            ports := s.part.ports.set p (t.part.port p), outStores := t.part.outStores
            chans := t.part.chans }
    let checked : Byte → Byte → Byte := fun v b =>
      (List.range 8).foldl (fun x _ => if x.getLsbD 7 then (x <<< 1) ^^^ 0x31 else x <<< 1) (v ^^^ b)
    let message : List Byte → List Byte := fun body =>
      0xD2 :: BitVec.ofNat 8 body.length :: body
        ++ [(BitVec.ofNat 8 body.length :: body).foldl checked 0]
    let status : Status → Byte := fun x => match x with
      | .ok => 0x00 | .late => 0x01 | .unknownKind => 0x02 | .badLength => 0x03 | .badPort => 0x04
      | .badSlot => 0x05 | .reservedSlot => 0x06 | .badSource => 0x07 | .notHolder => 0x08
      | .conflict => 0x09 | .listFull => 0x0A | .armed => 0x0B | .empty => 0x0C | .dependent => 0x0D
      | .badChannel => 0x0E | .badPattern => 0x0F | .noMemory => 0x10 | .badValue => 0x11
    let two : Nat → List Byte := fun n => [BitVec.ofNat 8 (n / 256), BitVec.ofNat 8 n]
    let orNone : Option Port → Byte := fun x => match x with
      | none => 0xFF
      | some q => BitVec.ofNat 8 q.val
    let lockState : LockState → Byte := fun x => match x with
      | .dark => 0x00 | .seek => 0x01 | .confirm _ => 0x02 | .locked => 0x03 | .coast _ => 0x04
    let portCause : PortCause → Byte := fun x => match x with
      | .clockFound => 0x01 | .frameFound => 0x02 | .clockLost => 0x03 | .framingLost => 0x04
      | .restart => 0x05 | .profile => 0x06
    let mode : RefMode → Byte := fun x => match x with
      | .free => 0x00 | .qualify => 0x01 | .tracking => 0x02 | .holdover => 0x03
    let refReason : RefReason → Byte := fun x => match x with
      | .chosen => 0x01 | .qualified => 0x02 | .candidateLost => 0x03 | .referenceLost => 0x04
      | .listChanged => 0x05
    let channelState : ChannelState → List Byte := fun x => match x with
      | .idle => [0x00, 0x00] | .loading => [0x01, 0x00] | .priming => [0x02, 0x00]
      | .playing => [0x03, 0x00] | .ended => [0x04, 0x00] | .halted .stopped => [0x05, 0x01]
      | .halted .badPattern => [0x05, 0x02] | .halted .memoryRetaken => [0x05, 0x03]
    let notice : QueuedNotice → List Byte := fun x => match x with
      | ⟨.portState q before after cause losses frame, lost⟩ =>
        [0x41, lost, BitVec.ofNat 8 q.val, lockState before, lockState after, portCause cause, losses]
          ++ two frame.toNat
      | ⟨.slip q direction kind count frame, lost⟩ =>
        [0x42, lost, BitVec.ofNat 8 q.val, if direction = .inbound then 0x00 else 0x01,
            if kind = .repeated then 0x00 else 0x01, count] ++ two frame.toNat
      | ⟨.reference m tracked candidate reason held frame, lost⟩ =>
        [0x43, lost, mode m, orNone tracked, orNone candidate, refReason reason]
          ++ two (held.getD 0) ++ two frame.toNat
      | ⟨.claimsFreed former released, lost⟩ =>
        [0x44, lost, BitVec.ofNat 8 former.val] ++ two released
      | ⟨.applied _ generation frame edits, lost⟩ =>
        [0x45, lost] ++ two generation.toNat ++ two frame.toNat ++ [BitVec.ofNat 8 edits]
      | ⟨.applyCancelled _ reason .next, lost⟩ =>
        [0x46, lost, if reason = .released then 0x01 else 0x02, 0x00, 0x00, 0x00]
      | ⟨.applyCancelled _ reason (.frame n), lost⟩ =>
        [0x46, lost, if reason = .released then 0x01 else 0x02, 0x01] ++ two n.toNat
      | ⟨.playback k state pattern frame, lost⟩ =>
        [0x47, lost, BitVec.ofNat 8 k.val] ++ channelState state
          ++ [match pattern with | none => 0xFF | some n => BitVec.ofNat 8 n.val] ++ two frame.toNat
      | ⟨.memory event halted frame, lost⟩ =>
        [0x48, lost, if event = .loaned then 0x01 else 0x02, BitVec.ofNat 8 halted] ++ two frame.toNat
    u.owing = .start ∨ (u.owing = .nothing ∧ startsFrame) →
    (∀ (pulse : Bool) (rest : List Byte), u.owing = .start ∨ pulse = true →
      (c.replies ≠ [] → exec (.frameEnd p pulse rest .start) s = exec (.replyStart p) s)
      ∧ (c.replies = [] → c.notices ≠ [] →
          exec (.frameEnd p pulse rest .start) s = exec (.noticeStart p) s))
    ∧ (∀ r more, c.replies = r :: more → c.intake = [] →
        ∃ t : State, exec (.replyStart p) s = .next t
          ∧ sends t { c with
              replies := more, overrun := 0
              sender := some ⟨message (r.kind :: r.tag :: status r.status :: c.overrun :: r.fields), 1,
                r.marked⟩ })
    ∧ (∀ n more, c.replies = [] → c.notices = n :: more →
        ∃ t : State, exec (.noticeStart p) s = .next t
          ∧ sends t { c with
              notices := more
              sender := some ⟨message (notice n), 1, false⟩ })
    ∧ (∀ kind tag fields, c.replies ≠ [] → c.intake = [kind :: tag :: fields] →
        ∃ t : State,
          exec (.replyStart p) { s with part := { s.part with
            chans := s.part.chans.set p { c with intake := [] } } } = .next t
          ∧ exec (.replyStart p) s = exec (.unknownKind p kind tag fields) t)
    ∧ (∀ kind tag fields second, c.replies.length = 4 →
        c.intake = [kind :: tag :: fields, second] →
        ∃ t v : State,
          exec (.replyStart p) { s with part := { s.part with
            chans := s.part.chans.set p { c with intake := [] } } } = .next t
          ∧ exec (.replyStart p) s = .next v ∧ v.pending = s.pending
          ∧ (let d := { t.part.chan p with intake := [second] }
            v.part = ({ t.part with chans := t.part.chans.set p d } : Part).answerMessage p
              (kind :: tag :: fields))
          ∧ (v.part.chan p).intake = [second]
          ∧ ∃ r : Reply, (v.part.chan p).replies = c.replies.tail ++ [r] ∧ r.tag = tag
              ∧ r.kind = (if 1 ≤ kind.toNat ∧ kind.toNat ≤ 16 then kind + 0x80 else 0x80)))

/-- R92, R97, R63, R120, R99: a bad frame end in COAST(3) is no frame start: the port leaves lock to SEEK,
both counters rise, the stores are flushed, the channel forgets all but its mask, and PORT_STATE with
cause FRAMING_LOST is raised. Neither share of a frame start is taken (R94). The part so left (v) is as the
reference unit then hears of the leaving (R74, R78). Stated as ClockWatchLeavesLock is. The model's choice: the
order of the leaving's effects, with PORT_STATE in a notice queue ahead of REFERENCE (v, and then the reference
unit; log 19, log 25), the running check 00H of the receiver (log 33), and what is left in SEEK of the fields of
a frame (log 9, log 10, log 23). -/
def Obligations.FourthBadFrameLeavesLock : Prop :=
  ∀ (p : Port) (pulse : Bool) (rest : List Byte) (s : State), s.part.inReset = false →
    (s.part.port p).lock = .coast 3 → ¬ (s.part.port p).endsWell pulse →
    (s.part.port p).action = none → (s.part.port p).owing = .nothing →
    ∃ (t : State) (v : Part), exec (.frameEnd p pulse rest .whole) s = .next t ∧ t.pending = s.pending
      ∧ exec (.frameEnd p pulse rest .completion) s = .next t
      ∧ exec (.frameEnd p pulse rest .start) s = .next s
      ∧ v.hearsLeaving p (.coast 3) t.part
      ∧ v.port p = { s.part.port p with
          lock := .seek, dout := .pattern (s.part.port p).dout.atEnd
          position := 0, received := [], actionDue := false, misplaced := false, owing := .nothing
          counters := { (s.part.port p).counters with
            badFrames := (s.part.port p).counters.badFrames + 1
            lockLosses := (s.part.port p).counters.lockLosses + 1 } }
      ∧ v.inStores = s.part.inStores.set p ⟨[], false, none, (s.part.port p).profile.depth⟩
      ∧ v.outStores = s.part.outStores.set p ⟨[], false, none, (s.part.port p).profile.depth⟩
      ∧ v.chan p = ⟨⟨.hunt, none, 0⟩, [], 0, [], [], 0, none, (s.part.chan p).mask⟩
      ∧ (∀ q : Port, q ≠ p → v.chan q =
          (s.part.raise (.portState p (.coast 3) .seek .framingLost
            ((s.part.port p).counters.lockLosses + 1) s.part.exch.counter)).chan q)
      ∧ v = { s.part with
          ports := s.part.ports.set p (v.port p), inStores := v.inStores
          outStores := v.outStores, chans := v.chans }

/-- R48, R92, R97, R102, R104: a pending RESTART takes effect at the reply's frame end, good or bad, with no
lock loss counted and PORT_STATE of cause RESTART, or at a loss of lock, a fourth bad frame or the clock
watch, with that loss's count and cause. Each way the master's list is emptied and disarmed, and claims,
map, profile and the other counters are kept. The part so left (v) is as the reference unit then hears of the
leaving (R74, R78). The model's choice: the order of the leaving's effects, with PORT_STATE in a notice queue
ahead of REFERENCE (v, and then the reference unit; log 19, log 25), the running check 00H of the receiver (log
33), and what is left out of lock of the fields of a frame (log 9, log 10, log 23). -/
def Obligations.RestartTakesEffect : Prop :=
  ∀ (p : Port) (s : State), s.part.inReset = false → s.part.inLock p = true →
    (s.part.port p).action = some .restart → (s.part.port p).owing = .nothing →
    (let u := s.part.port p
    let restarts : State → LockState → PortCause → Counters → Prop := fun t dest cause counts =>
      t.pending = s.pending ∧ ∃ v : Part, v.hearsLeaving p u.lock t.part
        ∧ v.port p = { u with
            lock := dest, dout := (v.port p).dout, action := none, counters := counts
            position := 0, received := [], actionDue := false, misplaced := false, owing := .nothing }
        ∧ (dest = .seek → (v.port p).dout = .pattern u.dout.atEnd)
        ∧ (∀ q : Port, q ≠ p → v.port q = s.part.port q)
        ∧ v.list p = ⟨[], none⟩ ∧ (∀ m, m ≠ p → v.list m = s.part.list m)
        ∧ v.inStores = s.part.inStores.set p ⟨[], false, none, u.profile.depth⟩
        ∧ v.outStores = s.part.outStores.set p ⟨[], false, none, u.profile.depth⟩
        ∧ v.chan p = ⟨⟨.hunt, none, 0⟩, [], 0, [], [], 0, none, (s.part.chan p).mask⟩
        ∧ (∀ q : Port, q ≠ p → v.chan q =
            (s.part.raise (.portState p u.lock dest cause counts.lockLosses s.part.exch.counter)).chan q)
        ∧ v.claims = s.part.claims ∧ v.exch = s.part.exch ∧ v.ref = s.part.ref
        ∧ v.play = s.part.play ∧ v.mem = s.part.mem
    (∀ (pulse : Bool) (rest : List Byte), u.actionDue = true →
      (u.endsWell pulse ∨ u.lock = .locked ∨ u.lock = .coast 1 ∨ u.lock = .coast 2) →
      ∃ t : State, exec (.frameEnd p pulse rest .whole) s = .next t
        ∧ restarts t .seek .restart { u.counters with
            badFrames := u.counters.badFrames + (if u.endsWell pulse then 0 else 1) })
    ∧ (∀ (pulse : Bool) (rest : List Byte), u.lock = .coast 3 → ¬ u.endsWell pulse →
        ∃ t : State, exec (.frameEnd p pulse rest .whole) s = .next t
          ∧ restarts t .seek .framingLost { u.counters with
              badFrames := u.counters.badFrames + 1, lockLosses := u.counters.lockLosses + 1 })
    ∧ (∀ sent : Nat, ∃ t : State, exec (.clockWatchExpiry ⟨p, sent⟩) s = .next t
        ∧ (t.part.port p).dout = .held (s.part.doutLevel p sent)
        ∧ restarts t .dark .clockLost { u.counters with lockLosses := u.counters.lockLosses + 1 }))

/-- R16, R32, R49, R97, R99, R102, R103, R120: a pending structural change takes effect at the reply's frame
end, good or bad, with PORT_STATE of cause PROFILE and no lock loss counted, or at a loss of lock, a fourth
bad frame or the clock watch, with that loss's count and cause. Each way the port is out of lock under the
new profile with an emptied control channel, no affected slot is held, every entry on an affected outbound
slot or naming an affected inbound slot is IDLE with the current generation (an IDLE one keeps its own), and
the edits that lose their holding or their source go; a list left empty is disarmed; another channel changes only
by the notices that join. An affected slot is one
at or beyond the new slot count, or the new control slot. The counter and the generation stay. The part so
left (v) is as the reference unit then hears of the leaving (R74, R78). The model's choice: the order of the
leaving's effects, with APPLY_CANCELLED and PORT_STATE in a notice queue ahead of REFERENCE (v, and then the
reference unit; log 19, log 25), the running check 00H of the receiver (log 33), and what is left out of lock of
the fields of a frame (log 9, log 10, log 23). -/
def Obligations.ProfileChangeTakesEffect : Prop :=
  ∀ (p : Port) (n : SlotCount) (c : ControlSlot) (s : State),
    s.part.inReset = false → s.part.inLock p = true →
    (s.part.port p).action = some (.profile n c) → (s.part.port p).owing = .nothing →
    (let u := s.part.port p
    let isAffected : Slot → Prop := fun i =>
      (n = .s32 ∧ 32 ≤ i.val) ∨ (c = .first ∧ i.val = 0)
        ∨ (c = .last ∧ n = .s32 ∧ i.val = 31) ∨ (c = .last ∧ n = .s64 ∧ i.val = 63)
    let names : Source → Prop := fun src => ∃ i : Slot, src = .inbound p i ∧ isAffected i
    let changes : State → LockState → PortCause → Counters → Prop := fun t dest cause counts =>
      t.pending = s.pending ∧ ∃ v : Part, v.hearsLeaving p u.lock t.part
      ∧ v.port p = { u with
          lock := dest, dout := (v.port p).dout, action := none, counters := counts
          profile := { u.profile with slotCount := n, controlSlot := c }
          position := 0, received := [], actionDue := false, misplaced := false, owing := .nothing }
      ∧ (dest = .seek → (v.port p).dout = .pattern u.dout.atEnd)
      ∧ (∀ q, q ≠ p → v.port q = s.part.port q)
      ∧ (∀ (q : Port) (i : Slot),
          ((q = p ∧ isAffected i ∧ (s.part.entry q i).source ≠ .idle) ∨ names (s.part.entry q i).source →
            v.entry q i = ⟨.idle, s.part.exch.generation⟩)
          ∧ (¬ ((q = p ∧ isAffected i ∧ (s.part.entry q i).source ≠ .idle)
              ∨ names (s.part.entry q i).source) → v.entry q i = s.part.entry q i))
      ∧ v.exch.counter = s.part.exch.counter ∧ v.exch.generation = s.part.exch.generation
      ∧ (∀ i : Slot, isAffected i → v.claims.holder (.slot p i) = none)
      ∧ (∀ (q : Port) (i : Slot), ¬ (q = p ∧ isAffected i) →
          v.claims.holder (.slot q i) = s.part.claims.holder (.slot q i))
      ∧ v.claims.channels = s.part.claims.channels ∧ v.claims.timing = s.part.claims.timing
      ∧ v.claims.lapse = s.part.claims.lapse
      ∧ (∀ (m : Port) (e : Edit), e ∈ (v.list m).edits ↔
          e ∈ (s.part.list m).edits
            ∧ ¬ (e.port = p ∧ isAffected e.slot ∧ s.part.claims.holder (.slot p e.slot) = some m)
            ∧ ¬ names e.source)
      ∧ (∀ m : Port, (v.list m).edits.Sublist (s.part.list m).edits)
      ∧ (∀ m : Port, (v.list m).target =
          if (v.list m).edits = [] then none else (s.part.list m).target)
      ∧ (∀ (m : Port) (x : Target), m ≠ p → s.part.inLock m = true →
          (s.part.list m).target = some x → (s.part.list m).edits ≠ [] →
          (v.list m).edits = [] →
          ∃ reason, s.part.reached v m (.applyCancelled m reason x)
            ∧ (reason = .released ↔ ∃ e ∈ (s.part.list m).edits,
                e.port = p ∧ isAffected e.slot ∧ s.part.claims.holder (.slot p e.slot) = some m))
      ∧ v.chan p = ⟨⟨.hunt, none, 0⟩, [], 0, [], [], 0, none, (s.part.chan p).mask⟩
      ∧ s.part.onlyNoticesJoined { v with chans := v.chans.set p (s.part.chan p) }
      ∧ (∀ q : Port, q ≠ p → s.part.inLock q = true → (s.part.chan q).mask.getLsbD 0 = true →
          s.part.reached v q
            (.portState p u.lock dest cause counts.lockLosses s.part.exch.counter))
      ∧ v.inStores = s.part.inStores.set p ⟨[], false, none, u.profile.depth⟩
      ∧ v.outStores = s.part.outStores.set p ⟨[], false, none, u.profile.depth⟩
      ∧ v.ref = s.part.ref ∧ v.play = s.part.play ∧ v.mem = s.part.mem
    (∀ (pulse : Bool) (rest : List Byte), u.actionDue = true →
      (u.endsWell pulse ∨ u.lock = .locked ∨ u.lock = .coast 1 ∨ u.lock = .coast 2) →
      ∃ t : State, exec (.frameEnd p pulse rest .whole) s = .next t
        ∧ changes t .seek .profile { u.counters with
            badFrames := u.counters.badFrames + (if u.endsWell pulse then 0 else 1) })
    ∧ (∀ (pulse : Bool) (rest : List Byte), u.lock = .coast 3 → ¬ u.endsWell pulse →
        ∃ t : State, exec (.frameEnd p pulse rest .whole) s = .next t
          ∧ changes t .seek .framingLost { u.counters with
              badFrames := u.counters.badFrames + 1, lockLosses := u.counters.lockLosses + 1 })
    ∧ (∀ sent : Nat, ∃ t : State, exec (.clockWatchExpiry ⟨p, sent⟩) s = .next t
        ∧ (t.part.port p).dout = .held (s.part.doutLevel p sent)
        ∧ changes t .dark .clockLost { u.counters with lockLosses := u.counters.lockLosses + 1 }))

/-- R63, R74, R78, R84, R85, R97, R99, R120: every way of leaving lock (the clock watch, a fourth bad frame, the
reply's frame end of a RESTART or a profile change) at a port of any role. The port's own effects are the same
in each role: state, DOUTp, stores, channel, pending action, counters and PORT_STATE. At the tracked port the
reference is lost: tracked port and candidate cleared, HOLDOVER with a held period and FREE without, TRACK
low, REFERENCE_LOST raised; when the timer has reached the period in use the next exchange frame start is
taken at once, else the timer goes on. A candidate that is LOCKED is cleared: out of QUALIFY into HOLDOVER or
FREE with CANDIDATE_LOST, in TRACKING with the mode kept. The model's choice: that the reference unit, and the
exchange frame start taken at once, come after the leaving and find the port out of lock (log 25), with REFERENCE
after PORT_STATE (log 19); the number of bits driven (log 13); and the running check 00H (log 33). -/
def Obligations.LockChangesReachTheReference : Prop :=
  ∀ (p : Port) (c : Instr) (dest : LockState) (cause : PortCause) (counts : Counters) (s : State),
    s.part.inReset = false → s.part.inLock p = true → s.part.leavesBy p c dest cause counts →
    (let u := s.part.port p
    let r := s.part.ref
    let fallback : RefMode := if r.held.isSome then .holdover else .free
    let period : Nat := r.held.getD 2048
    let lost := { r with
      mode := fallback, tracked := none, candidate := none, count := 0, realigning := false
      track := false }
    let hears : State → Notice → Prop := fun t n =>
      ∀ q : Port, q ≠ p → s.part.inLock q = true → (s.part.chan q).mask.getLsbD 2 = true →
        s.part.reached t.part q n
    ∃ t : State, exec c s = .next t ∧ t.pending = s.pending
      ∧ (t.part.port p).lock = dest ∧ (t.part.port p).counters = counts
      ∧ (t.part.port p).action = none ∧ (t.part.port p).received = []
      ∧ (∀ sent, c = .clockWatchExpiry ⟨p, sent⟩ →
          (t.part.port p).dout = .held (s.part.doutLevel p sent))
      ∧ (dest = .seek → (t.part.port p).dout = .pattern u.dout.atEnd)
      ∧ (u.action = some .restart → t.part.list p = ⟨[], none⟩)
      ∧ (∀ n k, u.action = some (.profile n k) →
          (t.part.port p).profile = { u.profile with slotCount := n, controlSlot := k })
      ∧ (u.action = none ∨ u.action = some .restart → (t.part.port p).profile = u.profile)
      ∧ t.part.inStores.get p = ⟨[], false, none, u.profile.depth⟩
      ∧ t.part.outStores.get p = ⟨[], false, none, u.profile.depth⟩
      ∧ t.part.chan p = ⟨⟨.hunt, none, 0⟩, [], 0, [], [], 0, none, (s.part.chan p).mask⟩
      ∧ (∀ q : Port, q ≠ p → s.part.inLock q = true → (s.part.chan q).mask.getLsbD 0 = true →
          s.part.reached t.part q
            (.portState p u.lock dest cause counts.lockLosses s.part.exch.counter))
      ∧ (r.candidate ≠ some p → r.tracked ≠ some p →
          t.part.ref = r ∧ t.part.exch.counter = s.part.exch.counter)
      ∧ (r.mode = .tracking → r.tracked = some p → r.candidate ≠ some p → r.timer < period →
          t.part.ref = lost ∧ t.part.exch.counter = s.part.exch.counter
            ∧ hears t (.reference fallback none none .referenceLost r.held s.part.exch.counter))
      ∧ (r.mode = .tracking → r.tracked = some p → r.candidate ≠ some p → period ≤ r.timer →
          (∃ w : State, w.part.ref = lost ∧ w.part.exch.counter = s.part.exch.counter
            ∧ w.part.inLock p = false ∧ exec (.exchangeFrameStart .localTimer) w = .next t
            ∧ hears w (.reference fallback none none .referenceLost r.held s.part.exch.counter))
          ∧ t.part.exch.counter = s.part.exch.counter + 1 ∧ t.part.ref.timer = 0
          ∧ t.part.ref.tracked = none ∧ t.part.ref.track = false ∧ t.part.ref.held = r.held
          ∧ t.part.ref.mode ≠ .tracking
          ∧ hears t (.reference fallback none none .referenceLost r.held s.part.exch.counter))
      ∧ (r.candidate = some p → u.lock = .locked → r.mode = .qualify →
          t.part.ref = { r with mode := fallback, candidate := none, count := 0 }
            ∧ hears t (.reference fallback r.tracked none .candidateLost r.held s.part.exch.counter))
      ∧ (r.candidate = some p → u.lock = .locked → r.mode = .tracking →
          t.part.ref = { r with candidate := none, count := 0 }))

/-! ### The control channel -/

/-- R95, R106, R107, R108: a control byte arrival joins the inbound frame, and the receiver acts by its state and
the byte: HUNT, LENGTH, BODY, and CHECK with a wrong check byte. The step of the running check, by the
polynomial 31H, is written out (R106). That the running check keeps its value in
HUNT is the model's choice (log 33). -/
def Obligations.TheReceiverActsByStateAndByte : Prop :=
  ∀ (p : Port) (earlier : List Byte) (b : Byte) (s : State), s.part.inReset = false →
    s.part.inLock p = true →
    (let u := s.part.port p
    let kept := { u with
      received := u.received ++ earlier ++ [b], position := 8 * u.profile.control + 7 }
    let c := s.part.chan p
    let after : PortUnit → Receiver → State := fun v r => { s with part := { s.part with
      ports := s.part.ports.set p v, chans := s.part.chans.set p { c with rx := r } } }
    let checked : Byte → Byte → Byte := fun v b =>
      (List.range 8).foldl (fun x _ => if x.getLsbD 7 then (x <<< 1) ^^^ 0x31 else x <<< 1) (v ^^^ b)
    let outcome := exec (.controlByteArrival p earlier b) s
    (c.rx.state = .hunt → b = 0xD2 → outcome = .next (after kept ⟨.length, some [], 0⟩))
    ∧ (c.rx.state = .hunt → b ≠ 0xD2 → outcome = .next (after kept c.rx))
    ∧ (c.rx.state = .length → c.rx.partialMessage = some [] → 2 ≤ b.toNat → b.toNat ≤ 32 →
        outcome = .next (after kept ⟨.body, some [b], checked c.rx.running b⟩))
    ∧ (c.rx.state = .length → b.toNat < 2 ∨ 32 < b.toNat →
        outcome = .next (after { kept with
          counters := { u.counters with framingErrors := u.counters.framingErrors + 1 } }
          ⟨.hunt, none, c.rx.running⟩))
    ∧ (∀ l body, c.rx.state = .body → c.rx.partialMessage = some (l :: body) →
        outcome = .next (after kept
          ⟨if body.length + 1 < l.toNat then .body else .check, some (l :: (body ++ [b])),
            checked c.rx.running b⟩))
    ∧ (c.rx.state = .check → b ≠ c.rx.running →
        outcome = .next (after { kept with
          counters := { u.counters with checkErrors := u.counters.checkErrors + 1 } }
          ⟨.hunt, none, c.rx.running⟩)))

/-- R109 to R113: CONTROL_MESSAGE_RECEIVED, the byte that ends a message whose check matches. At a full
intake queue the message is discarded and the overrun counter and tally rise; with a place in the intake
and a full reply queue it waits; with both free it is taken, and one reply with its kind and tag joins.
A wrong check byte counts a check error. Where it is not taken, the bytes join the inbound frame (R95) and nothing
else changes. That a message waits with the reply queue not full does not arise (EveryStepKeepsTheBounds). The
running check in HUNT (log 33), and the position at the last event of the port (log 10), are the model's choice. -/
def Obligations.AMessageIsReceived : Prop :=
  ∀ (p : Port) (earlier : List Byte) (check l kind tag : Byte) (fields : List Byte) (s : State),
    s.part.inReset = false → s.part.inLock p = true → (s.part.chan p).rx.state = .check →
    (s.part.chan p).rx.partialMessage = some (l :: kind :: tag :: fields) →
    (let u := s.part.port p
    let c := s.part.chan p
    let after : ControlChannel → Counters → Prop := fun d counts =>
      exec (.controlMessageReceived p earlier check) s = .next { s with part := { s.part with
        ports := s.part.ports.set p { u with
          received := u.received ++ earlier ++ [check], position := 8 * u.profile.control + 7
          counters := counts }
        chans := s.part.chans.set p { d with rx := ⟨.hunt, none, c.rx.running⟩ } } }
    (check ≠ c.rx.running →
      after c { u.counters with checkErrors := u.counters.checkErrors + 1 })
    ∧ (check = c.rx.running → c.intake.length = 2 →
      after { c with overrun := if c.overrun = 255 then 255 else c.overrun + 1 }
        { u.counters with intakeOverruns := u.counters.intakeOverruns + 1 })
    ∧ (check = c.rx.running → c.intake.length < 2 → 4 ≤ c.replies.length →
      after { c with intake := c.intake ++ [kind :: tag :: fields] } u.counters)
    ∧ (check = c.rx.running → c.intake = [] → c.replies.length < 4 →
      ∃ (t : State) (r : Reply), exec (.controlMessageReceived p earlier check) s = .next t
        ∧ t.pending = s.pending
        ∧ (t.part.chan p).rx = ⟨.hunt, none, c.rx.running⟩
        ∧ (t.part.chan p).intake = [] ∧ (t.part.chan p).replies = c.replies ++ [r]
        ∧ r.tag = tag
        ∧ r.kind = (if 1 ≤ kind.toNat ∧ kind.toNat ≤ 16 then kind + 0x80 else 0x80)))

/-- R106 to R109: what the receiver reads of a framed message is its body. From HUNT, the control bytes of
one framed message of 2 to 32 body bytes, one arrival after another, end as the completion of that body:
the same state as the request itself, with the bytes in the inbound frame. No bit of a request is lost
between its framing and its taking. A body of one of the sixteen request kinds (R123) is that request: PROBE is the
completion of the body of kind 01H, and so on to NOTICE_MASK and kind 10H. Sync, length, body and the check byte by the polynomial 31H are written out
(R106). The running check left in HUNT is the model's choice (log 33). -/
def Obligations.FramedMessagesAreReceivedWhole : Prop :=
  (∀ (p : Port) (tag : Byte) (fields : List Byte) (s : State),
    (let isKind : Byte → Instr → Prop := fun kind request =>
      exec request s = exec (.unknownKind p kind tag fields) s
    isKind 0x01 (.probe p tag fields) ∧ isKind 0x02 (.claim p tag fields)
    ∧ isKind 0x03 (.release p tag fields) ∧ isKind 0x04 (.stage p tag fields)
    ∧ isKind 0x05 (.discard p tag fields) ∧ isKind 0x06 (.apply p tag fields)
    ∧ isKind 0x07 (.readRoute p tag fields) ∧ isKind 0x08 (.readPort p tag fields)
    ∧ isKind 0x09 (.readReference p tag fields) ∧ isKind 0x0A (.readChannel p tag fields)
    ∧ isKind 0x0B (.setReferences p tag fields) ∧ isKind 0x0C (.setProfile p tag fields)
    ∧ isKind 0x0D (.restart p tag fields) ∧ isKind 0x0E (.play p tag fields)
    ∧ isKind 0x0F (.stop p tag fields) ∧ isKind 0x10 (.noticeMask p tag fields)))
  ∧ ∀ (p : Port) (kind tag : Byte) (fields : List Byte) (more : List Instr) (s : State),
    fields.length ≤ 30 → s.part.inReset = false → s.part.inLock p = true →
    (s.part.chan p).rx.state = .hunt →
    (let checked : Byte → Byte → Byte := fun v b =>
      (List.range 8).foldl (fun x _ => if x.getLsbD 7 then (x <<< 1) ^^^ 0x31 else x <<< 1) (v ^^^ b)
    let length : Byte := BitVec.ofNat 8 (fields.length + 2)
    let check : Byte := (length :: kind :: tag :: fields).foldl checked 0
    let bytes := 0xD2 :: length :: kind :: tag :: fields ++ [check]
    Host.Core.run Sys2Proof.core bytes.length
      { s with pending := bytes.map (fun b => Instr.controlByteArrival p [] b) ++ more } =
    exec (.unknownKind p kind tag fields) {
      pending := more
      part := { s.part with
        ports := s.part.ports.set p { s.part.port p with
          received := (s.part.port p).received ++ bytes
          position := 8 * (s.part.port p).profile.control + 7 }
        chans := s.part.chans.set p { s.part.chan p with
          rx := ⟨.hunt, none, check⟩ } } })

/-- R114, R115, R131: a raised notice joins, with the lost tally in its lost field, the queue of each port in
lock that the table of R114 admits, or at a full queue raises that port's lost tally. -/
def Obligations.NoticesAreRouted : Prop :=
  ∀ (n : Notice) (s : Part) (p : Port),
    (let wanted : Prop := match n with
      | .portState q _ _ _ _ _ => q ≠ p ∧ (s.chan p).mask.getLsbD 0 = true
      | .slip q _ _ _ _ => q ≠ p ∧ (s.chan p).mask.getLsbD 1 = true
      | .reference _ _ _ _ _ _ => (s.chan p).mask.getLsbD 2 = true
      | .claimsFreed q _ => q ≠ p ∧ (s.chan p).mask.getLsbD 3 = true
      | .memory _ _ _ => (s.chan p).mask.getLsbD 4 = true
      | .applied q _ _ _ => q = p
      | .applyCancelled q _ _ => q = p
      | .playback k _ _ _ => s.claims.holder (.channel k) = some p
    (s.raise n = { s with chans := (s.raise n).chans })
    ∧ (¬ (s.inLock p = true ∧ wanted) → (s.raise n).chan p = s.chan p)
    ∧ (s.inLock p = true → wanted → (s.chan p).notices.length < 8 →
        (s.raise n).chan p = { s.chan p with
          notices := (s.chan p).notices ++ [⟨n, (s.chan p).lost⟩], lost := 0 })
    ∧ (s.inLock p = true → wanted → 8 ≤ (s.chan p).notices.length →
        (s.raise n).chan p = { s.chan p with
          lost := if (s.chan p).lost = 255 then 255 else (s.chan p).lost + 1 }))

/-! ### Requests that read -/

/-- R132, R130: PROBE answers with the part code and revision, the requester, the counter, the generation,
the size of its holding, and the length, state and due frame of its list; it changes nothing else. -/
def Obligations.ProbeReportsTheStanding : Prop :=
  ∀ (p : Port) (tag : Byte) (s : State), s.part.ready p →
    (let two : Half → List Byte := fun h => [BitVec.ofNat 8 (h.toNat / 256), BitVec.ofNat 8 h.toNat]
    exec (.probe p tag []) s = .next (s.replying p ⟨0x81, tag, .ok,
      [0x04, 0x24, 0x01, BitVec.ofNat 8 p.val]
        ++ two s.part.exch.counter ++ two s.part.exch.generation
        ++ two (BitVec.ofNat 16 (s.part.claims.holding p).length)
        ++ [BitVec.ofNat 8 (s.part.list p).edits.length]
        ++ (match (s.part.list p).target with
          | none => [0x00, 0x00, 0x00]
          | some .next => 0x01 :: two (s.part.exch.counter + 1)
          | some (.frame n) => 0x02 :: two n), false⟩))

/-- R133, R130: READ_ROUTE answers with the source, set-generation and holder of any of the 256 entries, and
is refused with BAD_PORT and then with BAD_SLOT. -/
def Obligations.ReadRouteReportsTheEntry : Prop :=
  ∀ (p : Port) (tag port slot : Byte) (s : State), s.part.ready p →
    (let two : Half → List Byte := fun h => [BitVec.ofNat 8 (h.toNat / 256), BitVec.ofNat 8 h.toNat]
    (3 < port.toNat → exec (.readRoute p tag [port, slot]) s =
      .next (s.replying p
        ⟨0x87, tag, .badPort, [0, 0, 0, 0, 0, 0, 0, 0xFF], false⟩))
    ∧ (port.toNat ≤ 3 → 63 < slot.toNat → exec (.readRoute p tag [port, slot]) s =
      .next (s.replying p
        ⟨0x87, tag, .badSlot, [0, 0, 0, 0, 0, 0, 0, 0xFF], false⟩))
    ∧ (∀ (q : Port) (i : Slot), port.toNat = q.val → slot.toNat = i.val →
      exec (.readRoute p tag [port, slot]) s =
      .next (s.replying p ⟨0x87, tag, .ok,
        [port, slot]
          ++ (match (s.part.entry q i).source with
            | .idle => [0x00, 0x00, 0x00]
            | .constant v => [0x01, v, 0x00]
            | .inbound a b => [0x02, BitVec.ofNat 8 a.val, BitVec.ofNat 8 b.val]
            | .playback k => [0x03, BitVec.ofNat 8 k.val, 0x00])
          ++ two (s.part.entry q i).setGen
          ++ [match s.part.claims.holder (.slot q i) with
            | none => 0xFF
            | some h => BitVec.ofNat 8 h.val], false⟩)))

/-- R105, R134, R67: READ_PORT answers with the profile, the pending action, the lock state and bad count,
the two stores and the nine counters of any port, and clears nothing; above 3 it is refused. A port never
locked since device reset reads DARK (R134), every other its lock state as it stands (R105); that R134 is the
exception to R105 is the model's reading (DEDUCED, log 36). That the counters of such a port are 0 is a law of
EveryStepKeepsTheBounds. -/
def Obligations.ReadPortReportsTheRecord : Prop :=
  ∀ (p : Port) (tag port : Byte) (s : State), s.part.ready p →
    (3 < port.toNat → exec (.readPort p tag [port]) s =
      .next (s.replying p
        ⟨0x88, tag, .badPort, List.replicate 23 0, false⟩))
    ∧ (∀ q : Port, port.toNat = q.val → exec (.readPort p tag [port]) s =
      (let u := s.part.port q
      let count : SlotCount → Byte := fun n => if n = .s32 then 0x20 else 0x40
      let control : ControlSlot → Byte := fun c => if c = .first then 0x00 else 0x01
      let store : Store → List Byte := fun st =>
        [BitVec.ofNat 8 st.queue.length, if st.primed then 0x01 else 0x00]
      .next (s.replying p ⟨0x88, tag, .ok,
        [port, count u.profile.slotCount, control u.profile.controlSlot, u.profile.fill,
            if u.profile.depth = .one then 0x01 else 0x02]
          ++ (match u.action with
            | none => [0x00, 0x00, 0x00]
            | some (.profile n c) => [0x01, count n, control c]
            | some .restart => [0x02, 0x00, 0x00])
          ++ (if u.hasLocked = false then [0x00, 0x00]
            else match u.lock with
              | .dark => [0x00, 0x00]
              | .seek => [0x01, 0x00]
              | .confirm _ => [0x02, 0x00]
              | .locked => [0x03, 0x00]
              | .coast n => [0x04, BitVec.ofNat 8 n])
          ++ store (s.part.inStores.get q) ++ store (s.part.outStores.get q)
          ++ [u.counters.badFrames, u.counters.lockLosses, u.counters.inRepeats,
            u.counters.inDrops, u.counters.outRepeats, u.counters.outDrops,
            u.counters.checkErrors, u.counters.framingErrors, u.counters.intakeOverruns],
        false⟩)))

/-- R86, R135: READ_REFERENCE answers with the reference record, the list, the flag, the holder of timing, the
counter and the generation. Stated for a list of at most four ports, which R69 makes every list. -/
def Obligations.ReadReferenceReportsTheRecord : Prop :=
  ∀ (p : Port) (tag : Byte) (s : State), s.part.ready p → s.part.ref.list.length ≤ 4 →
    (let two : Half → List Byte := fun h => [BitVec.ofNat 8 (h.toNat / 256), BitVec.ofNat 8 h.toNat]
    let portOrNone : Option Port → Byte := fun o =>
      match o with
      | none => 0xFF
      | some q => BitVec.ofNat 8 q.val
    ∃ listed : List Byte, listed.length = 4
      ∧ (∀ j : Nat, j < 4 → listed[j]? = some (portOrNone s.part.ref.list[j]?))
      ∧ exec (.readReference p tag []) s =
        .next (s.replying p ⟨0x89, tag, .ok,
          [match s.part.ref.mode with
              | .free => 0x00 | .qualify => 0x01 | .tracking => 0x02 | .holdover => 0x03,
            portOrNone s.part.ref.tracked, portOrNone s.part.ref.candidate,
            if s.part.ref.candidate = none then 0 else BitVec.ofNat 8 s.part.ref.count]
          ++ two (BitVec.ofNat 16 (s.part.ref.held.getD 0))
          ++ [BitVec.ofNat 8 s.part.ref.list.length] ++ listed
          ++ [if s.part.ref.revertive then 0x01 else 0x00,
            portOrNone (s.part.claims.holder .timing)]
          ++ two s.part.exch.counter ++ two s.part.exch.generation, false⟩))

/-- R136, R156: READ_CHANNEL answers with the channel's state, halt reason, holder, pattern, play position
(0 without a descriptor copy), queue length and underrun counter; above 7 it is refused. -/
def Obligations.ReadChannelReportsTheRecord : Prop :=
  ∀ (p : Port) (tag channel : Byte) (s : State), s.part.ready p →
    (7 < channel.toNat → exec (.readChannel p tag [channel]) s =
      .next (s.replying p
        ⟨0x8A, tag, .badChannel, List.replicate 10 0, false⟩))
    ∧ (∀ k : Channel, channel.toNat = k.val → exec (.readChannel p tag [channel]) s =
      (let c := s.part.channel k
      let position : Nat := if c.desc = none then 0 else c.position
      .next (s.replying p ⟨0x8A, tag, .ok,
        [channel]
          ++ (match c.state with
            | .idle => [0x00, 0x00]
            | .loading => [0x01, 0x00]
            | .priming => [0x02, 0x00]
            | .playing => [0x03, 0x00]
            | .ended => [0x04, 0x00]
            | .halted .stopped => [0x05, 0x01]
            | .halted .badPattern => [0x05, 0x02]
            | .halted .memoryRetaken => [0x05, 0x03])
          ++ [(match s.part.claims.holder (.channel k) with
              | none => 0xFF
              | some h => BitVec.ofNat 8 h.val : Byte),
            (match c.pattern with
              | none => 0xFF
              | some n => BitVec.ofNat 8 n.val : Byte)]
          ++ [BitVec.ofNat 8 (position / 65536), BitVec.ofNat 8 (position / 256),
            BitVec.ofNat 8 position]
          ++ [BitVec.ofNat 8 c.queue.length, c.underruns], false⟩)))

/-! ### Requests of the claim unit -/

/-- R22, R23: a CLAIM that passes R20 and R21 gives the requester every named object that is free, and
answers with how many those were; when another port holds one, nothing is granted and the first contested
object in ascending order is named with its holder. Nothing but the claim table and the reply changes. -/
def Obligations.ClaimGrantsAllOrNothing : Prop :=
  ∀ (p : Port) (tag : Byte) (fields : List Byte) (os : List ClaimObject) (s : State), s.part.ready p →
    ((∃ (q : Port) (first count : Byte), fields = [0x01, BitVec.ofNat 8 q.val, first, count]
        ∧ 1 ≤ count.toNat ∧ first.toNat + count.toNat ≤ (s.part.port q).profile.slots
        ∧ ¬ (first.toNat ≤ (s.part.port q).profile.control
          ∧ (s.part.port q).profile.control < first.toNat + count.toNat)
        ∧ os = ((List.finRange 64).filter fun i => decide (first.toNat ≤ i.val
            ∧ i.val < first.toNat + count.toNat)).map fun i => ClaimObject.slot q i)
      ∨ (∃ k : Channel, fields = [0x02, BitVec.ofNat 8 k.val] ∧ os = [.channel k])
      ∨ (fields = [0x03] ∧ os = [.timing])) →
    ((∀ o ∈ os, s.part.claims.holder o = none ∨ s.part.claims.holder o = some p) →
      ∃ t : State, exec (.claim p tag fields) s = .next t ∧ t.pending = s.pending
        ∧ (∀ o ∈ os, t.part.claims.holder o = some p)
        ∧ (∀ o, o ∉ os → t.part.claims.holder o = s.part.claims.holder o)
        ∧ t.part.claims.lapse = s.part.claims.lapse
        ∧ t.part = { s.part.pushReply p ⟨0x82, tag, .ok,
            [BitVec.ofNat 8 (os.filter fun o => decide (s.part.claims.holder o = none)).length,
              0, 0, 0, 0xFF], false⟩ with claims := t.part.claims })
    ∧ (∀ (before after : List ClaimObject) (o : ClaimObject) (h : Port),
        os = before ++ o :: after →
        (∀ x ∈ before, s.part.claims.holder x = none ∨ s.part.claims.holder x = some p) →
        s.part.claims.holder o = some h → h ≠ p →
        exec (.claim p tag fields) s = .next (s.replying p ⟨0x82, tag, .conflict,
          [0] ++ (match o with
            | .slot q i => [0x01, BitVec.ofNat 8 q.val, BitVec.ofNat 8 i.val]
            | .channel k => [0x02, BitVec.ofNat 8 k.val, 0x00]
            | .timing => [0x03, 0x00, 0x00]) ++ [BitVec.ofNat 8 h.val], false⟩))

/-- R20, R21, R24: the checks that CLAIM and RELEASE share, in their order; a refused request changes nothing
but the reply queue. -/
def Obligations.ClaimAndReleaseAreChecked : Prop :=
  ∀ (p : Port) (tag : Byte) (s : State), s.part.ready p →
    (let refused : List Byte → Status → Prop := fun fields status =>
      exec (.claim p tag fields) s = .next (s.replying p
        ⟨0x82, tag, status, [0, 0, 0, 0, 0xFF], false⟩)
      ∧ exec (.release p tag fields) s = .next (s.replying p
        ⟨0x83, tag, status, [0, 0, 0, 0, 0, 0xFF], false⟩)
    (∀ (cls : Byte) (rest : List Byte), cls.toNat = 0 ∨ 3 < cls.toNat →
      refused (cls :: rest) .badValue)
    ∧ (∀ port first count : Byte, count.toNat = 0 ∨ 64 < count.toNat →
        refused [0x01, port, first, count] .badValue)
    ∧ (∀ port first count : Byte, 1 ≤ count.toNat → count.toNat ≤ 64 → 3 < port.toNat →
        refused [0x01, port, first, count] .badPort)
    ∧ (∀ (q : Port) (first count : Byte), 1 ≤ count.toNat → count.toNat ≤ 64 →
        (s.part.port q).profile.slots < first.toNat + count.toNat →
        refused [0x01, BitVec.ofNat 8 q.val, first, count] .badSlot)
    ∧ (∀ (q : Port) (first count : Byte), 1 ≤ count.toNat → count.toNat ≤ 64 →
        first.toNat + count.toNat ≤ (s.part.port q).profile.slots →
        first.toNat ≤ (s.part.port q).profile.control →
        (s.part.port q).profile.control < first.toNat + count.toNat →
        refused [0x01, BitVec.ofNat 8 q.val, first, count] .reservedSlot)
    ∧ (∀ k : Byte, 7 < k.toNat → refused [0x02, k] .badChannel))

/-- R24, R25, R46: a RELEASE of objects that the requester holds frees them, takes out of its list every edit
that targets one, and answers with both counts; an armed list left empty is disarmed with APPLY_CANCELLED
(RELEASED). If one is not held, nothing is released and the first such object is named with its holder. -/
def Obligations.ReleaseFreesAndRemovesEdits : Prop :=
  ∀ (p : Port) (tag : Byte) (fields : List Byte) (os : List ClaimObject) (s : State), s.part.ready p →
    ((∃ (q : Port) (first count : Byte), fields = [0x01, BitVec.ofNat 8 q.val, first, count]
        ∧ 1 ≤ count.toNat ∧ first.toNat + count.toNat ≤ (s.part.port q).profile.slots
        ∧ ¬ (first.toNat ≤ (s.part.port q).profile.control
          ∧ (s.part.port q).profile.control < first.toNat + count.toNat)
        ∧ os = ((List.finRange 64).filter fun i => decide (first.toNat ≤ i.val
            ∧ i.val < first.toNat + count.toNat)).map fun i => ClaimObject.slot q i)
      ∨ (∃ k : Channel, fields = [0x02, BitVec.ofNat 8 k.val] ∧ os = [.channel k])
      ∨ (fields = [0x03] ∧ os = [.timing])) →
    ((∀ o ∈ os, s.part.claims.holder o = some p) →
      ∃ t : State, exec (.release p tag fields) s = .next t ∧ t.pending = s.pending
        ∧ (∀ o ∈ os, t.part.claims.holder o = none)
        ∧ (∀ o, o ∉ os → t.part.claims.holder o = s.part.claims.holder o)
        ∧ t.part.claims.lapse = s.part.claims.lapse
        ∧ (let gone : Edit → Bool := fun e => os.contains (.slot e.port e.slot)
          let kept := (s.part.list p).edits.filter fun e => !gone e
          let reply : Reply := ⟨0x83, tag, .ok, [BitVec.ofNat 8 os.length,
            BitVec.ofNat 8 ((s.part.list p).edits.filter gone).length, 0, 0, 0, 0xFF], false⟩
          t.part.lists = s.part.lists.set p ⟨kept, if kept = [] then none else (s.part.list p).target⟩
          ∧ (∀ x, (s.part.list p).target = some x → (s.part.list p).edits ≠ [] → kept = [] →
              t.part.chans =
                ((s.part.raise (.applyCancelled p .released x)).pushReply p reply).chans)
          ∧ ((s.part.list p).target = none ∨ (s.part.list p).edits = [] ∨ kept ≠ [] →
              t.part.chans = (s.part.pushReply p reply).chans)
          ∧ t.part = { s.part with
              claims := t.part.claims, lists := t.part.lists, chans := t.part.chans }))
    ∧ (∀ (before after : List ClaimObject) (o : ClaimObject),
        os = before ++ o :: after → (∀ x ∈ before, s.part.claims.holder x = some p) →
        s.part.claims.holder o ≠ some p →
        exec (.release p tag fields) s = .next (s.replying p
          ⟨0x83, tag, .notHolder, [0, 0] ++ (match o with
            | .slot q i => [0x01, BitVec.ofNat 8 q.val, BitVec.ofNat 8 i.val]
            | .channel k => [0x02, BitVec.ofNat 8 k.val, 0x00]
            | .timing => [0x03, 0x00, 0x00])
            ++ [match s.part.claims.holder o with
              | none => 0xFF
              | some h => BitVec.ofNat 8 h.val], false⟩))

/-! ### Requests of the switchover unit -/

/-- R36 to R38: a STAGE that passes every check puts one edit into the requester's list, at its end, or in
place of the edit with the same target; the reply carries the new length. Nothing else changes. -/
def Obligations.StagePutsOneEdit : Prop :=
  ∀ (p q : Port) (i : Slot) (tag kind a b : Byte) (src : Source) (s : State), s.part.ready p →
    s.part.carries q i → s.part.claims.holder (.slot q i) = some p →
    (kind = 0x00 ∧ src = .idle ∨ kind = 0x01 ∧ src = .constant a
      ∨ (∃ (x : Port) (y : Slot), kind = 0x02 ∧ a.toNat = x.val ∧ b.toNat = y.val
          ∧ s.part.carries x y ∧ src = .inbound x y)
      ∨ (∃ k : Channel, kind = 0x03 ∧ a.toNat = k.val ∧ src = .playback k)) →
    (s.part.list p).target = none →
    (let edits := (s.part.list p).edits
    let staged : List Edit → State := fun new => (State.replying { s with part := { s.part with lists := s.part.lists.set p ⟨new, none⟩ } } p
        ⟨0x84, tag, .ok, [BitVec.ofNat 8 new.length], false⟩)
    let outcome := exec (.stage p tag [BitVec.ofNat 8 q.val, BitVec.ofNat 8 i.val, kind, a, b]) s
    ((∀ e ∈ edits, ¬ (e.port = q ∧ e.slot = i)) → edits.length < 16 →
      outcome = .next (staged (edits ++ [⟨q, i, src⟩])))
    ∧ (∀ (before after : List Edit) (old : Source), edits = before ++ ⟨q, i, old⟩ :: after →
        (∀ e ∈ before ++ after, ¬ (e.port = q ∧ e.slot = i)) →
        outcome = .next (staged (before ++ ⟨q, i, src⟩ :: after))))

/-- R36, R38: a STAGE that fails a check is refused with the first status of the table that applies, and
carries the list length as it found it. -/
def Obligations.StageIsCheckedInOrder : Prop :=
  ∀ (p : Port) (tag port slot kind a b : Byte) (s : State), s.part.ready p →
    (let refused : Status → Prop := fun status =>
      exec (.stage p tag [port, slot, kind, a, b]) s = .next (s.replying p
        ⟨0x84, tag, status, [BitVec.ofNat 8 (s.part.list p).edits.length], false⟩)
    let badSource : Prop :=
      (kind = 0x02 ∧ ∀ (x : Port) (y : Slot), a.toNat = x.val → b.toNat = y.val →
        ¬ s.part.carries x y)
      ∨ (kind = 0x03 ∧ 7 < a.toNat) ∨ 3 < kind.toNat
    (3 < port.toNat → refused .badPort)
    ∧ (∀ q : Port, port.toNat = q.val →
        ((s.part.port q).profile.slots ≤ slot.toNat → refused .badSlot)
        ∧ (∀ i : Slot, slot.toNat = i.val → i.val < (s.part.port q).profile.slots →
            (i.val = (s.part.port q).profile.control → refused .reservedSlot)
            ∧ (s.part.carries q i →
                (s.part.claims.holder (.slot q i) ≠ some p → refused .notHolder)
                ∧ (s.part.claims.holder (.slot q i) = some p →
                    (badSource → refused .badSource)
                    ∧ (¬ badSource → (s.part.list p).target ≠ none → refused .armed)
                    ∧ (¬ badSource → (s.part.list p).target = none →
                        16 ≤ (s.part.list p).edits.length →
                        (∀ e ∈ (s.part.list p).edits, ¬ (e.port = q ∧ e.slot = i)) →
                        refused .listFull))))))

/-- R39: a DISCARD empties and disarms the requester's list, armed or not, with no notice, and answers with
the number of edits removed. Nothing else changes. -/
def Obligations.DiscardEmptiesTheList : Prop :=
  ∀ (p : Port) (tag : Byte) (s : State), s.part.ready p →
    exec (.discard p tag []) s = .next (State.replying { s with part := { s.part with lists := s.part.lists.set p ⟨[], none⟩ } } p
        ⟨0x85, tag, .ok, [BitVec.ofNat 8 (s.part.list p).edits.length], false⟩)

/-- R40, R41: an APPLY is refused with BAD_VALUE, EMPTY, ARMED in that order; else it arms the list: for NEXT,
or with AT for frame N when N is 1 to 32767 ahead of the counter, and otherwise for NEXT with status LATE.
The reply carries the due frame and the edit count. -/
def Obligations.ApplyArmsTheList : Prop :=
  ∀ (p : Port) (tag mode hi lo : Byte) (s : State), s.part.ready p →
    (let two : Half → List Byte := fun h => [BitVec.ofNat 8 (h.toNat / 256), BitVec.ofNat 8 h.toNat]
    let edits := (s.part.list p).edits
    let ahead := ((hi ++ lo : Half) - s.part.exch.counter).toNat
    let length : Byte := BitVec.ofNat 8 edits.length
    let outcome := exec (.apply p tag [mode, hi, lo]) s
    let refused : Status → List Byte → Prop := fun status fields =>
      outcome = .next (s.replying p ⟨0x86, tag, status, fields, false⟩)
    let armed : Target → Status → Half → Prop := fun x status due =>
      outcome = .next (State.replying { s with part := { s.part with lists := s.part.lists.set p ⟨edits, some x⟩ } } p
          ⟨0x86, tag, status, two due ++ [length], false⟩)
    (1 < mode.toNat → refused .badValue [0, 0, 0])
    ∧ (mode.toNat ≤ 1 → edits = [] → refused .empty [0, 0, 0])
    ∧ (mode.toNat ≤ 1 → edits ≠ [] → (s.part.list p).target = some .next →
        refused .armed (two (s.part.exch.counter + 1) ++ [length]))
    ∧ (∀ n, mode.toNat ≤ 1 → edits ≠ [] → (s.part.list p).target = some (.frame n) →
        refused .armed (two n ++ [length]))
    ∧ (mode = 0x00 → edits ≠ [] → (s.part.list p).target = none →
        armed .next .ok (s.part.exch.counter + 1))
    ∧ (mode = 0x01 → edits ≠ [] → (s.part.list p).target = none → 1 ≤ ahead → ahead ≤ 32767 →
        armed (.frame (hi ++ lo)) .ok (hi ++ lo))
    ∧ (mode = 0x01 → edits ≠ [] → (s.part.list p).target = none → ahead = 0 ∨ 32768 ≤ ahead →
        armed .next .late (s.part.exch.counter + 1)))

/-! ### Requests of the reference unit, the port units and the channel -/

/-- R78, R81 to R84: SET_REFERENCES is refused with NOT_HOLDER, then with BAD_VALUE; else it replaces the list
and the flag and acts on the record at once: a tracked port that is no longer listed is lost, a candidate that
is no longer listed, or in TRACKING one with the flag OFF, is cleared. The reply carries the mode and the
tracked port after it. A start that is due is not taken by the request; only a loss at a timer that has reached
the period in use takes the next exchange frame start at once, and then the reply carries the mode before or
after that start: the order is log 20's and is not stated. -/
def Obligations.SetReferencesActsAtOnce : Prop :=
  ∀ (p : Port) (tag flag : Byte) (ports : List Byte) (s : State), s.part.ready p → ports.length ≤ 4 →
    (let fields : RefUnit → List Byte := fun r =>
      [match r.mode with
        | .free => 0x00 | .qualify => 0x01 | .tracking => 0x02 | .holdover => 0x03,
      match r.tracked with
        | none => 0xFF
        | some q => BitVec.ofNat 8 q.val]
    let refused : Status → Prop := fun status =>
      exec (.setReferences p tag (flag :: ports)) s = .next (s.replying p
        ⟨0x8B, tag, status, fields s.part.ref, false⟩)
    (s.part.claims.holder .timing ≠ some p → refused .notHolder)
    ∧ (s.part.claims.holder .timing = some p →
        (1 < flag.toNat ∨ (∃ b ∈ ports, 3 < b.toNat) ∨ ¬ ports.Nodup) → refused .badValue)
    ∧ (∀ list : List Port, s.part.claims.holder .timing = some p → flag.toNat ≤ 1 →
        ports = list.map (fun q => BitVec.ofNat 8 q.val) → list.Nodup →
        (let r := { s.part.ref with list := list, revertive := decide (flag = 0x01) }
        let fallback : RefMode := if r.held.isSome then .holdover else .free
        let period : Nat := r.held.getD 2048
        let loses : Prop := r.mode = .tracking ∧ ∃ q, r.tracked = some q ∧ q ∉ list
        let lost := { r with
          mode := fallback, tracked := none, candidate := none, count := 0
          realigning := false, track := false }
        (loses → period ≤ r.timer →
          (let w := { s with part := (({ s.part with ref := lost } : Part).raise
              (.reference fallback none none .listChanged r.held s.part.exch.counter)) }
          ∃ v t : State, exec (.setReferences p tag (flag :: ports)) s = .next t
            ∧ exec (.exchangeFrameStart .localTimer) w = .next v
            ∧ (t = v.replying p ⟨0x8B, tag, .ok, fields lost, false⟩
              ∨ t = v.replying p ⟨0x8B, tag, .ok, fields v.part.ref, false⟩)
            ∧ t.part.exch.counter = s.part.exch.counter + 1 ∧ t.part.ref.timer = 0
            ∧ t.part.ref.tracked = none ∧ t.part.ref.track = false ∧ t.part.ref.mode ≠ .tracking
            ∧ t.part.ref.held = r.held ∧ t.part.ref.list = list))
        ∧ (¬ loses ∨ r.timer < period →
          ∃ t : State, exec (.setReferences p tag (flag :: ports)) s = .next t ∧ t.pending = s.pending
            ∧ (loses → t.part.ref = lost)
            ∧ (r.mode = .tracking → (∀ q, r.tracked = some q → q ∈ list) →
                (∃ h, r.candidate = some h ∧ (h ∉ list ∨ flag = 0x00)) →
                t.part.ref = { r with candidate := none, count := 0 })
            ∧ (r.mode = .tracking → (∀ q, r.tracked = some q → q ∈ list) →
                (∀ h, r.candidate = some h → h ∈ list ∧ flag = 0x01) → t.part.ref = r)
            ∧ (∀ h, r.mode = .qualify → r.candidate = some h → h ∉ list →
                t.part.ref = { r with mode := fallback, candidate := none, count := 0 })
            ∧ (∀ h, r.mode = .qualify → r.candidate = some h → h ∈ list → t.part.ref = r)
            ∧ (r.mode = .free ∨ r.mode = .holdover → t.part.ref = r)
            ∧ ((s.part.ref.mode = t.part.ref.mode ∧ s.part.ref.tracked = t.part.ref.tracked) →
                t.part.chans = (s.part.pushReply p
                  ⟨0x8B, tag, .ok, fields t.part.ref, false⟩).chans)
            ∧ (¬ (s.part.ref.mode = t.part.ref.mode ∧ s.part.ref.tracked = t.part.ref.tracked) →
                t.part.chans = ((s.part.raise (.reference t.part.ref.mode t.part.ref.tracked
                  t.part.ref.candidate .listChanged s.part.ref.held s.part.exch.counter)).pushReply p
                  ⟨0x8B, tag, .ok, fields t.part.ref, false⟩).chans)
            ∧ t.part = { s.part with ref := t.part.ref, chans := t.part.chans }))))

/-- R101, R102, R104, R118: SET_PROFILE and RESTART act on the requester's own port: refused with BAD_VALUE,
ARMED and DEPENDENT in that order, else fill byte and prime depth are replaced at once, and a structural
change, or the restart, is recorded as the pending action, its OK reply marked. DEPENDENT: an affected
slot is held, or an entry or a staged edit names an affected inbound slot. -/
def Obligations.ProfilesAndRestartsAreRecorded : Prop :=
  ∀ (p : Port) (tag countByte controlByte fill depthByte : Byte) (s : State), s.part.ready p →
    (let u := s.part.port p
    let outcome := exec (.setProfile p tag [countByte, controlByte, fill, depthByte]) s
    let refused : Status → Prop := fun status =>
      outcome = .next (s.replying p ⟨0x8C, tag, status, [], false⟩)
    (¬ (countByte = 0x20 ∨ countByte = 0x40) ∨ 1 < controlByte.toNat
        ∨ ¬ (depthByte = 0x01 ∨ depthByte = 0x02) → refused .badValue)
    ∧ (u.action ≠ none → exec (.restart p tag []) s = .next (s.replying p ⟨0x8D, tag, .armed, [], false⟩))
    ∧ (u.action = none → exec (.restart p tag []) s = .next (State.replying { s with part := { s.part with ports := s.part.ports.set p { u with action := some .restart } } } p
          ⟨0x8D, tag, .ok, [], true⟩))
    ∧ (∀ (n : SlotCount) (c : ControlSlot) (d : PrimeDepth),
        countByte = (if n = .s32 then 0x20 else 0x40) → controlByte = (if c = .first then 0x00 else 0x01) →
        depthByte = (if d = .one then 0x01 else 0x02) →
        (let isAffected : Slot → Prop := fun i =>
          (n = .s32 ∧ 32 ≤ i.val) ∨ (c = .first ∧ i.val = 0)
            ∨ (c = .last ∧ n = .s32 ∧ i.val = 31) ∨ (c = .last ∧ n = .s64 ∧ i.val = 63)
        let inUse : Prop :=
          (∃ i : Slot, isAffected i ∧ s.part.claims.holder (.slot p i) ≠ none)
          ∨ (∃ (q : Port) (j i : Slot), (s.part.entry q j).source = .inbound p i ∧ isAffected i)
          ∨ (∃ (m : Port) (i : Slot), ∃ e ∈ (s.part.list m).edits,
              e.source = .inbound p i ∧ isAffected i)
        let same : Prop := u.profile.slotCount = n ∧ u.profile.controlSlot = c
        let recorded : Option PortAction → Bool → State := fun action marked => (State.replying { s with part := { s.part with ports := s.part.ports.set p { u with
            action := action, profile := { u.profile with fill := fill, depth := d } } } } p
            ⟨0x8C, tag, .ok, [], marked⟩)
        (u.action ≠ none → refused .armed)
        ∧ (u.action = none → ¬ same → inUse → refused .dependent)
        ∧ (u.action = none → ¬ same → ¬ inUse →
            outcome = .next (recorded (some (.profile n c)) true))
        ∧ (u.action = none → same → outcome = .next (recorded none false)))))

/-- R137, R126: NOTICE_MASK replaces the requester's mask unless any of bits 5 to 7 is set, and the reply
carries the mask as it then stands. A request of a kind that is none of the sixteen, whatever its length,
is answered UNKNOWN_KIND with the kind received. -/
def Obligations.MasksAndUnknownKindsAreAnswered : Prop :=
  ∀ (p : Port) (tag : Byte) (s : State), s.part.ready p →
    (∀ mask : Byte, 32 ≤ mask.toNat → exec (.noticeMask p tag [mask]) s = .next (s.replying p ⟨0x90, tag, .badValue, [BitVec.ofNat 8 (s.part.chan p).mask.toNat], false⟩))
    ∧ (∀ mask : Byte, mask.toNat < 32 → exec (.noticeMask p tag [mask]) s = .next (State.replying { s with part := { s.part with chans := s.part.chans.set p { s.part.chan p with
          mask := BitVec.ofNat 5 mask.toNat } } } p ⟨0x90, tag, .ok, [mask], false⟩))
    ∧ (∀ (kind : Byte) (fields : List Byte), kind.toNat = 0 ∨ 16 < kind.toNat →
        exec (.unknownKind p kind tag fields) s = .next (s.replying p ⟨0x80, tag, .unknownKind, [kind], false⟩))

/-- R127, R130: a request of a known kind with a wrong body length is answered BAD_LENGTH with the refusal
values of its kind, and changes nothing else. A body of L bytes has L - 2 fields. -/
def Obligations.WrongLengthsAreRefused : Prop :=
  ∀ (p : Port) (tag : Byte) (fields : List Byte) (s : State), s.part.ready p →
    (let refused : Host.Outcome State Fault Refusal → Byte → List Byte → Prop := fun outcome kind values =>
      outcome = .next (s.replying p ⟨kind, tag, .badLength, values, false⟩)
    let stand : List Byte :=
      [match s.part.ref.mode with
        | .free => 0x00 | .qualify => 0x01 | .tracking => 0x02 | .holdover => 0x03,
      match s.part.ref.tracked with
        | none => 0xFF
        | some q => BitVec.ofNat 8 q.val]
    let claimLengthWrong : Prop := fields = []
      ∨ (fields[0]? = some 0x01 ∧ fields.length ≠ 4) ∨ (fields[0]? = some 0x02 ∧ fields.length ≠ 2)
      ∨ (fields[0]? = some 0x03 ∧ fields.length ≠ 1)
    (fields.length ≠ 0 →
      refused (exec (.probe p tag fields) s) 0x81 (List.replicate 14 0)
      ∧ refused (exec (.discard p tag fields) s) 0x85 [0]
      ∧ refused (exec (.readReference p tag fields) s) 0x89 (List.replicate 17 0)
      ∧ refused (exec (.restart p tag fields) s) 0x8D [])
    ∧ (fields.length ≠ 1 →
      refused (exec (.readPort p tag fields) s) 0x88 (List.replicate 23 0)
      ∧ refused (exec (.readChannel p tag fields) s) 0x8A (List.replicate 10 0)
      ∧ refused (exec (.stop p tag fields) s) 0x8F [0, 0xFF]
      ∧ refused (exec (.noticeMask p tag fields) s) 0x90
          [BitVec.ofNat 8 (s.part.chan p).mask.toNat])
    ∧ (fields.length ≠ 2 →
      refused (exec (.readRoute p tag fields) s) 0x87 [0, 0, 0, 0, 0, 0, 0, 0xFF]
      ∧ refused (exec (.play p tag fields) s) 0x8E [0, 0xFF])
    ∧ (fields.length ≠ 3 → refused (exec (.apply p tag fields) s) 0x86 [0, 0, 0])
    ∧ (fields.length ≠ 4 → refused (exec (.setProfile p tag fields) s) 0x8C [])
    ∧ (fields.length ≠ 5 → refused (exec (.stage p tag fields) s) 0x84
        [BitVec.ofNat 8 (s.part.list p).edits.length])
    ∧ (fields.length = 0 ∨ 5 < fields.length →
      refused (exec (.setReferences p tag fields) s) 0x8B stand)
    ∧ (claimLengthWrong → refused (exec (.claim p tag fields) s) 0x82 [0, 0, 0, 0, 0xFF]
      ∧ refused (exec (.release p tag fields) s) 0x83 [0, 0, 0, 0, 0, 0xFF]))

/-! ### Requests of the playback unit -/

/-- R141, R143, R145, R146: PLAY is refused with BAD_CHANNEL, NOT_HOLDER, BAD_PATTERN and NO_MEMORY in that
order; else the channel begins pattern n under a new epoch with an empty queue: PRIMING with the cached
descriptor, which becomes the most recently used, or LOADING, where it waits on the fetch for n, joined or
created at the tail. It leaves the fetch it waited on, which goes when it awaits issue and has no other
waiter; that a channel which waits on the fetch for n already keeps it in its place is the model's choice
(log 27). -/
def Obligations.PlayStartsAPattern : Prop :=
  ∀ (p : Port) (tag kb nb : Byte) (s : State), s.part.ready p →
    (let outcome := exec (.play p tag [kb, nb]) s
    let answer : Part → Status → List Byte → State := fun t status fields =>
      { s with part := t.pushReply p ⟨0x8E, tag, status, fields, false⟩ }
    (7 < kb.toNat → outcome = .next (answer s.part .badChannel [kb, 0xFF]))
    ∧ (∀ k : Channel, kb.toNat = k.val →
        (let c := s.part.channel k
        let held : Prop := s.part.claims.holder (.channel k) = some p
        let asItStands : List Byte := [kb, match c.state with
          | .idle => 0x00 | .loading => 0x01 | .priming => 0x02 | .playing => 0x03 | .ended => 0x04
          | .halted _ => 0x05]
        (¬ held → outcome = .next (answer s.part .notHolder asItStands))
        ∧ (held → 63 < nb.toNat → outcome = .next (answer s.part .badPattern asItStands))
        ∧ (held → nb.toNat ≤ 63 → s.part.mem.size = .none →
            outcome = .next (answer s.part .noMemory asItStands))
        ∧ (∀ n : Pattern, held → nb.toNat = n.val → s.part.mem.size ≠ .none →
            (let leftOf : List Fetch → List Fetch := fun fs => fs.filterMap fun f =>
              let others := f.waiters.filter fun j => decide (j ≠ k)
              if k ∈ f.waiters ∧ others = [] ∧ f.progress = .awaitingIssue then none
              else some { f with waiters := others }
            (∀ (before after : List CacheEntry) (d : Descriptor),
              s.part.play.cache = before ++ ⟨n, d⟩ :: after →
              (∀ e ∈ before ++ after, e.pattern ≠ n) →
              outcome = .next (answer { s.part with play := { s.part.play with
                cache := ⟨n, d⟩ :: (before ++ after)
                fetches := leftOf s.part.play.fetches
                channels := s.part.play.channels.set k { c with
                  state := .priming, pattern := some n, desc := some d, rest := d.filler
                  nextFetch := 0, position := 0, queue := [], epoch := c.epoch + 1 } } } .ok
                [kb, 0x02]))
            ∧ ((∀ e ∈ s.part.play.cache, e.pattern ≠ n) →
                (let fetches : List Fetch → State := fun fs => answer { s.part with
                  play := { s.part.play with
                    fetches := fs
                    channels := s.part.play.channels.set k { c with
                      state := .loading, pattern := some n, desc := none, nextFetch := 0
                      position := 0, queue := [], epoch := c.epoch + 1 } } } .ok [kb, 0x01]
                ((∀ f ∈ s.part.play.fetches, f.pattern ≠ n) →
                  outcome = .next (fetches
                    (leftOf s.part.play.fetches ++ [⟨n, [k], .awaitingIssue⟩])))
                ∧ (∀ (before after : List Fetch) (ws : List Channel) (g : FetchProgress),
                    s.part.play.fetches = before ++ ⟨n, ws, g⟩ :: after →
                    (∀ f ∈ before ++ after, f.pattern ≠ n) →
                    outcome = .next (fetches (leftOf before
                      ++ ⟨n, if k ∈ ws then ws else ws ++ [k], g⟩ :: leftOf after))))))))))

/-- R142, R146, R154: STOP is refused with BAD_CHANNEL and then NOT_HOLDER; else from any state the channel
is HALTED (STOPPED) with an empty queue and a new epoch, all else of its record kept, and it waits on no
fetch: a fetch not yet issued that is left without a waiter goes, and the others keep their order. -/
def Obligations.StopHaltsTheChannel : Prop :=
  ∀ (p : Port) (tag kb : Byte) (s : State), s.part.ready p →
    (7 < kb.toNat → exec (.stop p tag [kb]) s = .next (s.replying p ⟨0x8F, tag, .badChannel, [kb, 0xFF], false⟩))
    ∧ (∀ k : Channel, kb.toNat = k.val →
        (let c := s.part.channel k
        (s.part.claims.holder (.channel k) ≠ some p → exec (.stop p tag [kb]) s =
          .next (s.replying p ⟨0x8F, tag, .notHolder, [kb, match c.state with
            | .idle => 0x00 | .loading => 0x01 | .priming => 0x02 | .playing => 0x03 | .ended => 0x04
            | .halted _ => 0x05], false⟩))
        ∧ (s.part.claims.holder (.channel k) = some p →
            ∃ t : State, exec (.stop p tag [kb]) s = .next t ∧ t.pending = s.pending
              ∧ t.part.channel k = { c with
                  state := .halted .stopped, queue := [], epoch := c.epoch + 1 }
              ∧ t.part.play.fetches = s.part.play.fetches.filterMap (fun f =>
                  let others := f.waiters.filter fun j => decide (j ≠ k)
                  if k ∈ f.waiters ∧ others = [] ∧ f.progress = .awaitingIssue then none
                  else some { f with waiters := others })
              ∧ (∀ f ∈ s.part.play.fetches, f.progress = .awaitingIssue → f.waiters = [k] →
                  (∀ f' ∈ s.part.play.fetches, f'.pattern = f.pattern → f' = f) →
                  ∀ f' ∈ t.part.play.fetches, f'.pattern ≠ f.pattern)
              ∧ t.part = ({ s.part with play := { s.part.play with
                  channels := s.part.play.channels.set k (t.part.channel k)
                  fetches := t.part.play.fetches } } : Part).pushReply p
                    ⟨0x8F, tag, .ok, [kb, 0x05], false⟩)))

/-! ### The pattern memory port -/

/-- R148, R149, R160, R161: a refill request stands for a PRIMING or PLAYING channel with 16 bytes or fewer
queued and in flight and bytes to fetch. In IDLE the arbiter serves the oldest fetch awaiting issue; with none, the first channel
after the pointer, in ascending order and wrapping, whose refill request stands; with nothing it does
nothing. It does not run in another state. A burst reads at most 16 bytes, to the pattern's end and to the
next page. -/
def Obligations.TheArbiterChoosesOneBurst : Prop :=
  ∀ s : State, s.part.inReset = false →
    (∀ k : Channel, (s.part.channel k).wantsRefill = true ↔
      ((s.part.channel k).state = .priming ∨ (s.part.channel k).state = .playing)
        ∧ (s.part.channel k).queue.length + (s.part.channel k).inFlight ≤ 16
        ∧ ∃ d, (s.part.channel k).desc = some d
          ∧ (d.mode = .loop ∨ (s.part.channel k).nextFetch < d.length.toNat))
    ∧ (s.part.mem.state ≠ .idle → exec .arbiterChoice s = .next s)
    ∧ (∀ (before after : List Fetch) (n : Pattern) (ws : List Channel), s.part.mem.state = .idle →
        s.part.play.fetches = before ++ ⟨n, ws, .awaitingIssue⟩ :: after →
        (∀ f ∈ before, f.progress = .issued) → (∀ f ∈ before ++ after, f.pattern ≠ n) →
        exec .arbiterChoice s = .next { s with part := { s.part with
          play := { s.part.play with fetches := before ++ ⟨n, ws, .issued⟩ :: after }
          mem := { s.part.mem with
            state := .reading, quiet := false
            burst := some ⟨.descriptor n, BitVec.ofNat 24 (16 * n.val), 16⟩ } } })
    ∧ (s.part.mem.state = .idle → (∀ f ∈ s.part.play.fetches, f.progress = .issued) →
        (∀ k, (s.part.channel k).wantsRefill = false) → exec .arbiterChoice s = .next s)
    ∧ (∀ (j : Nat) (k : Channel) (d : Descriptor), s.part.mem.state = .idle →
        (∀ f ∈ s.part.play.fetches, f.progress = .issued) → 1 ≤ j → j ≤ 8 →
        k.val = (s.part.mem.pointer.val + j) % 8 →
        (∀ (i : Nat) (x : Channel), 1 ≤ i → i < j → x.val = (s.part.mem.pointer.val + i) % 8 →
          (s.part.channel x).wantsRefill = false) →
        (s.part.channel k).wantsRefill = true → (s.part.channel k).desc = some d →
        (let c := s.part.channel k
        let address : Addr := d.start + BitVec.ofNat 24 c.nextFetch
        let size := min (min 16 (d.length.toNat - c.nextFetch)) (256 - address.toNat % 256)
        exec .arbiterChoice s = .next { s with part := { s.part with
          play := { s.part.play with channels := s.part.play.channels.set k { c with
            inFlight := size
            nextFetch := if d.mode = .loop ∧ c.nextFetch + size = d.length.toNat
              then d.loopOffset.toNat else c.nextFetch + size } }
          mem := { s.part.mem with
            state := .reading, burst := some ⟨.refill k c.epoch, address, size⟩
            pointer := k, quiet := false } } }))

/-- R150, R151, R162: the completion of a refill burst: bytes in flight become 0; the bytes join the queue
when the burst's epoch is the channel's and the channel is PRIMING or PLAYING, and are discarded
otherwise; a delivery that reaches 16 bytes, or completes a ONCE pattern shorter than 16, ends priming.
From READING the port becomes IDLE, from LOAN_PENDING it grants the loan with MEMORY (LOANED). The levels of
MCK and MDO after the transaction are free values (log 34), and nothing is stated of them. -/
def Obligations.RefillBurstsComplete : Prop :=
  ∀ (bytes : List Byte) (k : Channel) (e : Half) (address : Addr) (s : State),
    s.part.inReset = false → s.part.mem.burst = some ⟨.refill k e, address, bytes.length⟩ →
    (s.part.mem.state = .reading ∨ s.part.mem.state = .loanPending) →
    ∃ t : State, exec (.burstCompletion bytes) s = .next t ∧ t.pending = s.pending
      ∧ (let c := s.part.channel k
        let taken : Prop := e = c.epoch ∧ (c.state = .priming ∨ c.state = .playing)
        let filled : Prop := 16 ≤ (c.queue ++ bytes).length
          ∨ ∃ d, c.desc = some d ∧ d.mode = .once ∧ d.length.toNat < 16 ∧ c.nextFetch = d.length.toNat
        (¬ taken → t.part.channel k = { c with inFlight := 0 })
        ∧ (taken → t.part.channel k = { c with
            inFlight := 0, queue := c.queue ++ bytes
            state := if c.state = .priming then (t.part.channel k).state else .playing })
        ∧ (taken → c.state = .priming → filled → (t.part.channel k).state = .playing)
        ∧ (taken → c.state = .priming → ¬ filled → (t.part.channel k).state = .priming)
        ∧ (s.part.mem.state = .reading →
            t.part.mem = { s.part.mem with
              state := .idle, burst := none, mck := t.part.mem.mck, mdo := t.part.mem.mdo }
            ∧ t.part.chans = s.part.chans)
        ∧ (s.part.mem.state = .loanPending →
            t.part.mem = { s.part.mem with
              state := .loaned, burst := none, loanGnt := true
              mck := t.part.mem.mck, mdo := t.part.mem.mdo }
            ∧ t.part.chans = (s.part.raise (.memory .loaned 0 s.part.exch.counter)).chans)
        ∧ t.part = { s.part with
            play := { s.part.play with channels := s.part.play.channels.set k (t.part.channel k) }
            mem := t.part.mem, chans := t.part.chans, freeCount := t.part.freeCount })

/-- R138, R139, R145, R147, R162: the completion of a descriptor burst: the fetch leaves the list; a valid record
is installed at the front of the cache, where the last of four goes, and every waiting channel copies it
and primes; an invalid one halts them with BAD_PATTERN, and a PLAYBACK notice for each, in ascending channel
order, reaches its holder in lock (R155); no channel changes but by the notices that join.
The record is valid by the six tests of R139. From READING the port becomes IDLE; from LOAN_PENDING the loan
is granted after the delivery, with MEMORY (LOANED) last. Free values as in RefillBurstsComplete. -/
def Obligations.DescriptorFetchesComplete : Prop :=
  ∀ (n : Pattern) (address : Addr)
    (mark mode filler reserved s2 s1 s0 l2 l1 l0 o2 o1 o0 x y z : Byte) (s : State),
    s.part.inReset = false → s.part.mem.burst = some ⟨.descriptor n, address, 16⟩ →
    (s.part.mem.state = .reading ∨ s.part.mem.state = .loanPending) →
    (let bytes := [mark, mode, filler, reserved, s2, s1, s0, l2, l1, l0, o2, o1, o0, x, y, z]
    let start : Addr := s2 ++ s1 ++ s0
    let length : Addr := l2 ++ l1 ++ l0
    let loopOffset : Addr := o2 ++ o1 ++ o0
    let bound : Nat := match s.part.mem.size with
      | .none => 0
      | .mib1 => 0x100000
      | .mib4 => 0x400000
      | .mib16 => 0x1000000
    let valid : Prop := mark = 0x5C ∧ mode.toNat ≤ 1 ∧ reserved = 0x00 ∧ 1 ≤ length.toNat
      ∧ loopOffset.toNat < length.toNat ∧ start.toNat + length.toNat ≤ bound
    let d : Descriptor := ⟨if mode = 0x00 then .once else .loop, filler, start, length, loopOffset⟩
    let waits : Channel → Prop := fun k => ∃ f ∈ s.part.play.fetches, f.pattern = n ∧ k ∈ f.waiters
    ∃ t : State, exec (.burstCompletion bytes) s = .next t ∧ t.pending = s.pending
      ∧ t.part.play.fetches = s.part.play.fetches.filter (fun f => decide (f.pattern ≠ n))
      ∧ (s.part.mem.state = .reading →
          t.part.mem = { s.part.mem with
            state := .idle, burst := none, mck := t.part.mem.mck, mdo := t.part.mem.mdo }
          ∧ (valid → t.part.chans = s.part.chans))
      ∧ (s.part.mem.state = .loanPending →
          t.part.mem = { s.part.mem with
            state := .loaned, burst := none, loanGnt := true
            mck := t.part.mem.mck, mdo := t.part.mem.mdo }
          ∧ ∃ w : State, exec (.burstCompletion bytes) { s with part := { s.part with
                mem := { s.part.mem with state := .reading } } } = .next w
              ∧ t.part.chans = (w.part.raise (.memory .loaned 0 s.part.exch.counter)).chans)
      ∧ (∀ k, ¬ waits k → t.part.channel k = s.part.channel k)
      ∧ (valid → t.part.play.cache = ⟨n, d⟩ :: s.part.play.cache.take 3
          ∧ ∀ k, waits k → t.part.channel k = { s.part.channel k with
              state := .priming, desc := some d, rest := filler, nextFetch := 0, position := 0
              queue := [] })
      ∧ s.part.onlyNoticesJoined t.part
      ∧ (¬ valid → ∃ ks : List Channel, ks.Pairwise (· < ·) ∧ (∀ k, k ∈ ks ↔ waits k)
          ∧ (let halted : Part := ks.foldl (fun v k => v.raise (.playback k (.halted .badPattern)
              (s.part.channel k).pattern s.part.exch.counter)) s.part
            (s.part.mem.state = .reading → t.part.chans = halted.chans)
            ∧ (s.part.mem.state = .loanPending →
                t.part.chans = (halted.raise (.memory .loaned 0 s.part.exch.counter)).chans)))
      ∧ (¬ valid → t.part.play.cache = s.part.play.cache
          ∧ ∀ k, waits k →
              t.part.channel k = { s.part.channel k with state := .halted .badPattern, queue := [] }
              ∧ ∀ h : Port, s.part.claims.holder (.channel k) = some h → s.part.inLock h = true →
                  s.part.reached t.part h (.playback k (.halted .badPattern)
                    (s.part.channel k).pattern s.part.exch.counter))
      ∧ t.part = { s.part with
          play := t.part.play, mem := t.part.mem, chans := t.part.chans
          freeCount := t.part.freeCount })

/-- R158, R163, R166: an assertion of LOAN_REQ: granted at once in IDLE, with LOAN_GNT high and MEMORY
(LOANED); LOAN_PENDING in READING; with no memory strapped LOAN_GNT alone follows. A level that is high
already is no assertion (log 1). -/
def Obligations.LoanRequestsAreGranted : Prop :=
  ∀ s : State, s.part.inReset = false →
    (s.part.mem.loanReq = true → exec .loanReqAssertion s = .next s)
    ∧ (s.part.mem.loanReq = false → s.part.mem.size = .none →
        exec .loanReqAssertion s = .next { s with part := { s.part with
          mem := { s.part.mem with loanReq := true, loanGnt := true } } })
    ∧ (s.part.mem.loanReq = false → s.part.mem.size ≠ .none → s.part.mem.state = .idle →
        exec .loanReqAssertion s = .next { s with part := { s.part with
          mem := { s.part.mem with loanReq := true, loanGnt := true, state := .loaned }
          chans := (s.part.raise (.memory .loaned 0 s.part.exch.counter)).chans } })
    ∧ (s.part.mem.loanReq = false → s.part.mem.size ≠ .none → s.part.mem.state = .reading →
        exec .loanReqAssertion s = .next { s with part := { s.part with
          mem := { s.part.mem with loanReq := true, state := .loanPending } } })

/-- R158, R164, R165, R166, R170: a release of LOAN_REQ: in LOAN_PENDING the request is withdrawn; in LOANED the
memory is returned: LOAN_GNT low, cache and fetches emptied, every channel in LOADING, PRIMING or PLAYING
halted with MEMORY_RETAKEN and a PLAYBACK notice to its holder in lock, in ascending channel order (R155), and
after them MEMORY (RETURNED) with their number to every port in lock whose mask includes it; no channel changes
but by the notices that join; with no memory strapped LOAN_GNT alone follows. The
part drives MCK low again; MDO is as it was when no burst has been issued, else a free value (log 34). -/
def Obligations.LoanReleasesReturnTheMemory : Prop :=
  ∀ s : State, s.part.inReset = false → s.part.mem.loanReq = true →
    (s.part.mem.size = .none → exec .loanReqRelease s = .next { s with part := { s.part with
        mem := { s.part.mem with loanReq := false, loanGnt := false } } })
    ∧ (s.part.mem.size ≠ .none → s.part.mem.state = .loanPending →
        exec .loanReqRelease s = .next { s with part := { s.part with
          mem := { s.part.mem with loanReq := false, state := .reading } } })
    ∧ (s.part.mem.size ≠ .none → s.part.mem.state = .loaned →
        ∃ t : State, exec .loanReqRelease s = .next t ∧ t.pending = s.pending
          ∧ t.part.mem = { s.part.mem with
              loanReq := false, loanGnt := false, state := .idle, mck := false, mdo := t.part.mem.mdo }
          ∧ (s.part.mem.quiet = true → t.part.mem.mdo = s.part.mem.mdo)
          ∧ t.part.play.cache = [] ∧ t.part.play.fetches = []
          ∧ (let depends : Channel → Prop := fun k =>
              (s.part.channel k).state = .loading ∨ (s.part.channel k).state = .priming
                ∨ (s.part.channel k).state = .playing
            s.part.onlyNoticesJoined t.part
            ∧ (∃ ks : List Channel, ks.Pairwise (· < ·) ∧ (∀ k, k ∈ ks ↔ depends k)
                ∧ t.part.chans = ((ks.foldl (fun v k => v.raise (.playback k (.halted .memoryRetaken)
                    (s.part.channel k).pattern s.part.exch.counter)) s.part).raise
                      (.memory .returned ks.length s.part.exch.counter)).chans)
            ∧ (∀ k, ¬ depends k → t.part.channel k = s.part.channel k)
            ∧ (∀ k, depends k →
                t.part.channel k = { s.part.channel k with
                  state := .halted .memoryRetaken, queue := [] }
                ∧ ∀ h : Port, s.part.claims.holder (.channel k) = some h → s.part.inLock h = true →
                    s.part.reached t.part h (.playback k (.halted .memoryRetaken)
                      (s.part.channel k).pattern s.part.exch.counter))
            ∧ (∀ p : Port, s.part.inLock p = true → (s.part.chan p).mask.getLsbD 4 = true →
                ∃ halted : List Channel, halted.Nodup ∧ (∀ k, k ∈ halted ↔ depends k)
                  ∧ s.part.reached t.part p (.memory .returned halted.length s.part.exch.counter)))
          ∧ t.part = { s.part with
              play := t.part.play, mem := t.part.mem, chans := t.part.chans
              freeCount := t.part.freeCount })

/-! ### Laws that every step keeps -/

/-- R14, R28, R52, R53, R58, R88, R91, R92, R100, R109, R111, R113, R115, R134, R168: every step keeps the bounds of
the stores, of the three queues of every channel and of the lapse timers; no store of a port out of lock holds or
yields a frame, and every frame a store holds or last yielded has its port's slot count; a message waits only
while the reply queue is full; the good count is 0 or 1 in CONFIRM and the bad count 1 to 3 in COAST; every port is
DARK while device reset lasts; and the counters of a port that has never locked since device reset are 0. -/
def Obligations.EveryStepKeepsTheBounds : Prop :=
  ∀ s t : State, s.part.bounded → step s = .next t → t.part.bounded

/-- R68, R69, R73, R79, R82, R85: every step keeps the laws of the reference record: TRACK and the tracked port
with the mode, the held period in its range, a candidate listed and LOCKED, and with the revertive flag OFF none in
TRACKING. -/
def Obligations.EveryStepKeepsTheReferenceLaws : Prop :=
  ∀ s t : State, s.part.referenceLawful → step s = .next t → t.part.referenceLawful

/-- R3, R19, R34, R35: every step keeps the laws of the map, the claim table and the staging lists. -/
def Obligations.EveryStepKeepsTheRouteLaws : Prop :=
  ∀ s t : State, s.part.routesLawful → step s = .next t → t.part.routesLawful

/-- R140, R145, R146, R148, R157: every step keeps each prefetch queue, with the bytes on their way, within 32
bytes, the bytes in flight equal to the burst's, and a burst in flight exactly in READING and LOAN_PENDING; a
descriptor copy in PRIMING and PLAYING; the cache within four, and no pattern twice in the cache and the
fetches; a fetch ISSUED exactly while its burst is in flight, one awaiting issue with a waiter; and a channel
on one fetch while LOADING and on none otherwise. -/
def Obligations.EveryStepKeepsThePrefetchLaws : Prop :=
  ∀ s t : State, s.part.prefetchLawful → step s = .next t → t.part.prefetchLawful

/-- The state after reset meets all four laws. Its straps are the model's choice (log 15). -/
def Obligations.TheResetStateIsLawful : Prop :=
  State.reset.part.bounded ∧ State.reset.part.referenceLawful ∧ State.reset.part.routesLawful
    ∧ State.reset.part.prefetchLawful
end

