-- ==== Sys2Proof/Laws/Bank.lean ====
section
/-! SUPPORT. Reading and writing a bank: a read after a write to the same place gives the value written, and
a write leaves every other place alone. -/

namespace Sys2Proof

variable {n : Nat} {α : Type}

@[simp] theorem Bank.get_set_self (b : Bank n α) (i : Fin n) (x : α) : (b.set i x).get i = x := by
  simp [Bank.get, Bank.set]

@[simp] theorem Bank.get_set_ne (b : Bank n α) {i j : Fin n} (x : α) (h : j ≠ i) :
    (b.set i x).get j = b.get j := by
  have : i.val ≠ j.val := fun e => h (Fin.ext e.symm)
  simp [Bank.get, Bank.set, this]

theorem Bank.get_set (b : Bank n α) (i j : Fin n) (x : α) :
    (b.set i x).get j = if j = i then x else b.get j := by
  by_cases h : j = i
  · subst h; simp
  · simp [h]

@[simp] theorem Bank.get_all (i : Fin n) (x : α) : (Bank.all x : Bank n α).get i = x := by
  simp [Bank.get, Bank.all]

@[simp] theorem Bank.get_build (f : Fin n → α) (i : Fin n) : (Bank.build f).get i = f i := by
  simp [Bank.get, Bank.build]

@[simp] theorem Bank.get_modify_self (b : Bank n α) (i : Fin n) (f : α → α) :
    (b.modify i f).get i = f (b.get i) := by simp [Bank.modify]

@[simp] theorem Bank.get_modify_ne (b : Bank n α) {i j : Fin n} (f : α → α) (h : j ≠ i) :
    (b.modify i f).get j = b.get j := by simp [Bank.modify, h]

theorem Bank.get_modify (b : Bank n α) (i j : Fin n) (f : α → α) :
    (b.modify i f).get j = if j = i then f (b.get i) else b.get j := by
  simp [Bank.modify, Bank.get_set]

/-- Two banks that hold the same things are equal. -/
theorem Bank.ext_get {a b : Bank n α} (h : ∀ i, a.get i = b.get i) : a = b := by
  cases a with
  | mk v =>
    cases b with
    | mk w =>
      congr 1
      ext i hi
      exact h ⟨i, hi⟩

@[simp] theorem Bank.set_get_self (b : Bank n α) (i : Fin n) : b.set i (b.get i) = b :=
  Bank.ext_get fun j => by simp only [Bank.get_set]; split <;> simp_all

@[simp] theorem Bank.set_set (b : Bank n α) (i : Fin n) (x y : α) : (b.set i x).set i y = b.set i y :=
  Bank.ext_get fun j => by simp only [Bank.get_set]; split <;> rfl

@[simp] theorem Bank.modify_modify (b : Bank n α) (i : Fin n) (f g : α → α) :
    (b.modify i f).modify i g = b.modify i fun x => g (f x) := by simp [Bank.modify]

theorem Bank.modify_id (b : Bank n α) (i : Fin n) (f : α → α) (h : f (b.get i) = b.get i) :
    b.modify i f = b := by simp [Bank.modify, h]

@[simp] theorem mem_allPorts (p : Port) : p ∈ allPorts := by revert p; decide

@[simp] theorem mem_allChannels (k : Channel) : k ∈ allChannels := by revert k; decide

end Sys2Proof
end

