-- ==== Sys2Proof/Laws/State.lean ====
section
/-! SUPPORT. What each named update of the part leaves in each field: one lemma for a field and an update, true
by `rfl`. A lemma's name is the update's and the field's. -/

namespace Sys2Proof.Machine

open Sys2Proof

variable (s : Part)

/-! ### modifyPort -/

@[simp] theorem Part.modifyPort_inReset (p : Port) (f : PortUnit → PortUnit) : (s.modifyPort p f).inReset = s.inReset := rfl
@[simp] theorem Part.modifyPort_ports (p : Port) (f : PortUnit → PortUnit) :
    (s.modifyPort p f).ports = s.ports.modify p f := rfl
@[simp] theorem Part.modifyPort_inStores (p : Port) (f : PortUnit → PortUnit) : (s.modifyPort p f).inStores = s.inStores := rfl
@[simp] theorem Part.modifyPort_outStores (p : Port) (f : PortUnit → PortUnit) : (s.modifyPort p f).outStores = s.outStores := rfl
@[simp] theorem Part.modifyPort_ref (p : Port) (f : PortUnit → PortUnit) : (s.modifyPort p f).ref = s.ref := rfl
@[simp] theorem Part.modifyPort_exch (p : Port) (f : PortUnit → PortUnit) : (s.modifyPort p f).exch = s.exch := rfl
@[simp] theorem Part.modifyPort_claims (p : Port) (f : PortUnit → PortUnit) : (s.modifyPort p f).claims = s.claims := rfl
@[simp] theorem Part.modifyPort_lists (p : Port) (f : PortUnit → PortUnit) : (s.modifyPort p f).lists = s.lists := rfl
@[simp] theorem Part.modifyPort_chans (p : Port) (f : PortUnit → PortUnit) : (s.modifyPort p f).chans = s.chans := rfl
@[simp] theorem Part.modifyPort_play (p : Port) (f : PortUnit → PortUnit) : (s.modifyPort p f).play = s.play := rfl
@[simp] theorem Part.modifyPort_mem (p : Port) (f : PortUnit → PortUnit) : (s.modifyPort p f).mem = s.mem := rfl
@[simp] theorem Part.modifyPort_freeCount (p : Port) (f : PortUnit → PortUnit) : (s.modifyPort p f).freeCount = s.freeCount := rfl
@[simp] theorem Part.modifyPort_chan (p : Port) (f : PortUnit → PortUnit) (q : Port) : (s.modifyPort p f).chan q = s.chan q := rfl
@[simp] theorem Part.modifyPort_list (p : Port) (f : PortUnit → PortUnit) (q : Port) : (s.modifyPort p f).list q = s.list q := rfl
@[simp] theorem Part.modifyPort_entry (p : Port) (f : PortUnit → PortUnit) (q : Port) (i : Slot) : (s.modifyPort p f).entry q i = s.entry q i := rfl
@[simp] theorem Part.modifyPort_channel (p : Port) (f : PortUnit → PortUnit) (k' : Channel) : (s.modifyPort p f).channel k' = s.channel k' := rfl
@[simp] theorem Part.modifyPort_lapseTimer (p : Port) (f : PortUnit → PortUnit) (q : Port) : (s.modifyPort p f).lapseTimer q = s.lapseTimer q := rfl
@[simp] theorem Part.modifyPort_frameNumber (p : Port) (f : PortUnit → PortUnit) : (s.modifyPort p f).frameNumber = s.frameNumber := rfl

/-! ### count -/

@[simp] theorem Part.count_inReset (p : Port) (f : Counters → Counters) : (s.count p f).inReset = s.inReset := rfl
@[simp] theorem Part.count_ports (p : Port) (f : Counters → Counters) :
    (s.count p f).ports = s.ports.modify p fun u => { u with counters := f u.counters } := rfl
@[simp] theorem Part.count_inStores (p : Port) (f : Counters → Counters) : (s.count p f).inStores = s.inStores := rfl
@[simp] theorem Part.count_outStores (p : Port) (f : Counters → Counters) : (s.count p f).outStores = s.outStores := rfl
@[simp] theorem Part.count_ref (p : Port) (f : Counters → Counters) : (s.count p f).ref = s.ref := rfl
@[simp] theorem Part.count_exch (p : Port) (f : Counters → Counters) : (s.count p f).exch = s.exch := rfl
@[simp] theorem Part.count_claims (p : Port) (f : Counters → Counters) : (s.count p f).claims = s.claims := rfl
@[simp] theorem Part.count_lists (p : Port) (f : Counters → Counters) : (s.count p f).lists = s.lists := rfl
@[simp] theorem Part.count_chans (p : Port) (f : Counters → Counters) : (s.count p f).chans = s.chans := rfl
@[simp] theorem Part.count_play (p : Port) (f : Counters → Counters) : (s.count p f).play = s.play := rfl
@[simp] theorem Part.count_mem (p : Port) (f : Counters → Counters) : (s.count p f).mem = s.mem := rfl
@[simp] theorem Part.count_freeCount (p : Port) (f : Counters → Counters) : (s.count p f).freeCount = s.freeCount := rfl
@[simp] theorem Part.count_chan (p : Port) (f : Counters → Counters) (q : Port) : (s.count p f).chan q = s.chan q := rfl
@[simp] theorem Part.count_list (p : Port) (f : Counters → Counters) (q : Port) : (s.count p f).list q = s.list q := rfl
@[simp] theorem Part.count_entry (p : Port) (f : Counters → Counters) (q : Port) (i : Slot) : (s.count p f).entry q i = s.entry q i := rfl
@[simp] theorem Part.count_channel (p : Port) (f : Counters → Counters) (k' : Channel) : (s.count p f).channel k' = s.channel k' := rfl
@[simp] theorem Part.count_lapseTimer (p : Port) (f : Counters → Counters) (q : Port) : (s.count p f).lapseTimer q = s.lapseTimer q := rfl
@[simp] theorem Part.count_frameNumber (p : Port) (f : Counters → Counters) : (s.count p f).frameNumber = s.frameNumber := rfl

/-! ### setOwing -/

@[simp] theorem Part.setOwing_inReset (p : Port) (o : Owing) : (s.setOwing p o).inReset = s.inReset := rfl
@[simp] theorem Part.setOwing_ports (p : Port) (o : Owing) :
    (s.setOwing p o).ports = s.ports.modify p fun u => { u with owing := o } := rfl
@[simp] theorem Part.setOwing_inStores (p : Port) (o : Owing) : (s.setOwing p o).inStores = s.inStores := rfl
@[simp] theorem Part.setOwing_outStores (p : Port) (o : Owing) : (s.setOwing p o).outStores = s.outStores := rfl
@[simp] theorem Part.setOwing_ref (p : Port) (o : Owing) : (s.setOwing p o).ref = s.ref := rfl
@[simp] theorem Part.setOwing_exch (p : Port) (o : Owing) : (s.setOwing p o).exch = s.exch := rfl
@[simp] theorem Part.setOwing_claims (p : Port) (o : Owing) : (s.setOwing p o).claims = s.claims := rfl
@[simp] theorem Part.setOwing_lists (p : Port) (o : Owing) : (s.setOwing p o).lists = s.lists := rfl
@[simp] theorem Part.setOwing_chans (p : Port) (o : Owing) : (s.setOwing p o).chans = s.chans := rfl
@[simp] theorem Part.setOwing_play (p : Port) (o : Owing) : (s.setOwing p o).play = s.play := rfl
@[simp] theorem Part.setOwing_mem (p : Port) (o : Owing) : (s.setOwing p o).mem = s.mem := rfl
@[simp] theorem Part.setOwing_freeCount (p : Port) (o : Owing) : (s.setOwing p o).freeCount = s.freeCount := rfl
@[simp] theorem Part.setOwing_chan (p : Port) (o : Owing) (q : Port) : (s.setOwing p o).chan q = s.chan q := rfl
@[simp] theorem Part.setOwing_list (p : Port) (o : Owing) (q : Port) : (s.setOwing p o).list q = s.list q := rfl
@[simp] theorem Part.setOwing_entry (p : Port) (o : Owing) (q : Port) (i : Slot) : (s.setOwing p o).entry q i = s.entry q i := rfl
@[simp] theorem Part.setOwing_channel (p : Port) (o : Owing) (k' : Channel) : (s.setOwing p o).channel k' = s.channel k' := rfl
@[simp] theorem Part.setOwing_lapseTimer (p : Port) (o : Owing) (q : Port) : (s.setOwing p o).lapseTimer q = s.lapseTimer q := rfl
@[simp] theorem Part.setOwing_frameNumber (p : Port) (o : Owing) : (s.setOwing p o).frameNumber = s.frameNumber := rfl

/-! ### confirming -/

@[simp] theorem Part.confirming_inReset (p : Port) (g : Nat) : (s.confirming p g).inReset = s.inReset := rfl
@[simp] theorem Part.confirming_ports (p : Port) (g : Nat) :
    (s.confirming p g).ports = s.ports.modify p fun u => { u with lock := .confirm g, position := 0 } := rfl
@[simp] theorem Part.confirming_inStores (p : Port) (g : Nat) : (s.confirming p g).inStores = s.inStores := rfl
@[simp] theorem Part.confirming_outStores (p : Port) (g : Nat) : (s.confirming p g).outStores = s.outStores := rfl
@[simp] theorem Part.confirming_ref (p : Port) (g : Nat) : (s.confirming p g).ref = s.ref := rfl
@[simp] theorem Part.confirming_exch (p : Port) (g : Nat) : (s.confirming p g).exch = s.exch := rfl
@[simp] theorem Part.confirming_claims (p : Port) (g : Nat) : (s.confirming p g).claims = s.claims := rfl
@[simp] theorem Part.confirming_lists (p : Port) (g : Nat) : (s.confirming p g).lists = s.lists := rfl
@[simp] theorem Part.confirming_chans (p : Port) (g : Nat) : (s.confirming p g).chans = s.chans := rfl
@[simp] theorem Part.confirming_play (p : Port) (g : Nat) : (s.confirming p g).play = s.play := rfl
@[simp] theorem Part.confirming_mem (p : Port) (g : Nat) : (s.confirming p g).mem = s.mem := rfl
@[simp] theorem Part.confirming_freeCount (p : Port) (g : Nat) : (s.confirming p g).freeCount = s.freeCount := rfl
@[simp] theorem Part.confirming_chan (p : Port) (g : Nat) (q : Port) : (s.confirming p g).chan q = s.chan q := rfl
@[simp] theorem Part.confirming_list (p : Port) (g : Nat) (q : Port) : (s.confirming p g).list q = s.list q := rfl
@[simp] theorem Part.confirming_entry (p : Port) (g : Nat) (q : Port) (i : Slot) : (s.confirming p g).entry q i = s.entry q i := rfl
@[simp] theorem Part.confirming_channel (p : Port) (g : Nat) (k' : Channel) : (s.confirming p g).channel k' = s.channel k' := rfl
@[simp] theorem Part.confirming_lapseTimer (p : Port) (g : Nat) (q : Port) : (s.confirming p g).lapseTimer q = s.lapseTimer q := rfl
@[simp] theorem Part.confirming_frameNumber (p : Port) (g : Nat) : (s.confirming p g).frameNumber = s.frameNumber := rfl

/-! ### modifyChan -/

@[simp] theorem Part.modifyChan_inReset (p : Port) (f : ControlChannel → ControlChannel) : (s.modifyChan p f).inReset = s.inReset := rfl
@[simp] theorem Part.modifyChan_ports (p : Port) (f : ControlChannel → ControlChannel) : (s.modifyChan p f).ports = s.ports := rfl
@[simp] theorem Part.modifyChan_inStores (p : Port) (f : ControlChannel → ControlChannel) : (s.modifyChan p f).inStores = s.inStores := rfl
@[simp] theorem Part.modifyChan_outStores (p : Port) (f : ControlChannel → ControlChannel) : (s.modifyChan p f).outStores = s.outStores := rfl
@[simp] theorem Part.modifyChan_ref (p : Port) (f : ControlChannel → ControlChannel) : (s.modifyChan p f).ref = s.ref := rfl
@[simp] theorem Part.modifyChan_exch (p : Port) (f : ControlChannel → ControlChannel) : (s.modifyChan p f).exch = s.exch := rfl
@[simp] theorem Part.modifyChan_claims (p : Port) (f : ControlChannel → ControlChannel) : (s.modifyChan p f).claims = s.claims := rfl
@[simp] theorem Part.modifyChan_lists (p : Port) (f : ControlChannel → ControlChannel) : (s.modifyChan p f).lists = s.lists := rfl
@[simp] theorem Part.modifyChan_chans (p : Port) (f : ControlChannel → ControlChannel) :
    (s.modifyChan p f).chans = s.chans.modify p f := rfl
@[simp] theorem Part.modifyChan_play (p : Port) (f : ControlChannel → ControlChannel) : (s.modifyChan p f).play = s.play := rfl
@[simp] theorem Part.modifyChan_mem (p : Port) (f : ControlChannel → ControlChannel) : (s.modifyChan p f).mem = s.mem := rfl
@[simp] theorem Part.modifyChan_freeCount (p : Port) (f : ControlChannel → ControlChannel) : (s.modifyChan p f).freeCount = s.freeCount := rfl
@[simp] theorem Part.modifyChan_port (p : Port) (f : ControlChannel → ControlChannel) (q : Port) : (s.modifyChan p f).port q = s.port q := rfl
@[simp] theorem Part.modifyChan_inLock (p : Port) (f : ControlChannel → ControlChannel) (q : Port) : (s.modifyChan p f).inLock q = s.inLock q := rfl
@[simp] theorem Part.modifyChan_list (p : Port) (f : ControlChannel → ControlChannel) (q : Port) : (s.modifyChan p f).list q = s.list q := rfl
@[simp] theorem Part.modifyChan_entry (p : Port) (f : ControlChannel → ControlChannel) (q : Port) (i : Slot) : (s.modifyChan p f).entry q i = s.entry q i := rfl
@[simp] theorem Part.modifyChan_channel (p : Port) (f : ControlChannel → ControlChannel) (k' : Channel) : (s.modifyChan p f).channel k' = s.channel k' := rfl
@[simp] theorem Part.modifyChan_lapseTimer (p : Port) (f : ControlChannel → ControlChannel) (q : Port) : (s.modifyChan p f).lapseTimer q = s.lapseTimer q := rfl
@[simp] theorem Part.modifyChan_frameNumber (p : Port) (f : ControlChannel → ControlChannel) : (s.modifyChan p f).frameNumber = s.frameNumber := rfl

/-! ### setReceiver -/

@[simp] theorem Part.setReceiver_inReset (p : Port) (r : Receiver) : (s.setReceiver p r).inReset = s.inReset := rfl
@[simp] theorem Part.setReceiver_ports (p : Port) (r : Receiver) : (s.setReceiver p r).ports = s.ports := rfl
@[simp] theorem Part.setReceiver_inStores (p : Port) (r : Receiver) : (s.setReceiver p r).inStores = s.inStores := rfl
@[simp] theorem Part.setReceiver_outStores (p : Port) (r : Receiver) : (s.setReceiver p r).outStores = s.outStores := rfl
@[simp] theorem Part.setReceiver_ref (p : Port) (r : Receiver) : (s.setReceiver p r).ref = s.ref := rfl
@[simp] theorem Part.setReceiver_exch (p : Port) (r : Receiver) : (s.setReceiver p r).exch = s.exch := rfl
@[simp] theorem Part.setReceiver_claims (p : Port) (r : Receiver) : (s.setReceiver p r).claims = s.claims := rfl
@[simp] theorem Part.setReceiver_lists (p : Port) (r : Receiver) : (s.setReceiver p r).lists = s.lists := rfl
@[simp] theorem Part.setReceiver_chans (p : Port) (r : Receiver) :
    (s.setReceiver p r).chans = s.chans.modify p fun c => { c with rx := r } := rfl
@[simp] theorem Part.setReceiver_play (p : Port) (r : Receiver) : (s.setReceiver p r).play = s.play := rfl
@[simp] theorem Part.setReceiver_mem (p : Port) (r : Receiver) : (s.setReceiver p r).mem = s.mem := rfl
@[simp] theorem Part.setReceiver_freeCount (p : Port) (r : Receiver) : (s.setReceiver p r).freeCount = s.freeCount := rfl
@[simp] theorem Part.setReceiver_port (p : Port) (r : Receiver) (q : Port) : (s.setReceiver p r).port q = s.port q := rfl
@[simp] theorem Part.setReceiver_inLock (p : Port) (r : Receiver) (q : Port) : (s.setReceiver p r).inLock q = s.inLock q := rfl
@[simp] theorem Part.setReceiver_list (p : Port) (r : Receiver) (q : Port) : (s.setReceiver p r).list q = s.list q := rfl
@[simp] theorem Part.setReceiver_entry (p : Port) (r : Receiver) (q : Port) (i : Slot) : (s.setReceiver p r).entry q i = s.entry q i := rfl
@[simp] theorem Part.setReceiver_channel (p : Port) (r : Receiver) (k' : Channel) : (s.setReceiver p r).channel k' = s.channel k' := rfl
@[simp] theorem Part.setReceiver_lapseTimer (p : Port) (r : Receiver) (q : Port) : (s.setReceiver p r).lapseTimer q = s.lapseTimer q := rfl
@[simp] theorem Part.setReceiver_frameNumber (p : Port) (r : Receiver) : (s.setReceiver p r).frameNumber = s.frameNumber := rfl

/-! ### pushReply -/

@[simp] theorem Part.pushReply_inReset (p : Port) (r : Reply) : (s.pushReply p r).inReset = s.inReset := rfl
@[simp] theorem Part.pushReply_ports (p : Port) (r : Reply) : (s.pushReply p r).ports = s.ports := rfl
@[simp] theorem Part.pushReply_inStores (p : Port) (r : Reply) : (s.pushReply p r).inStores = s.inStores := rfl
@[simp] theorem Part.pushReply_outStores (p : Port) (r : Reply) : (s.pushReply p r).outStores = s.outStores := rfl
@[simp] theorem Part.pushReply_ref (p : Port) (r : Reply) : (s.pushReply p r).ref = s.ref := rfl
@[simp] theorem Part.pushReply_exch (p : Port) (r : Reply) : (s.pushReply p r).exch = s.exch := rfl
@[simp] theorem Part.pushReply_claims (p : Port) (r : Reply) : (s.pushReply p r).claims = s.claims := rfl
@[simp] theorem Part.pushReply_lists (p : Port) (r : Reply) : (s.pushReply p r).lists = s.lists := rfl
@[simp] theorem Part.pushReply_chans (p : Port) (r : Reply) :
    (s.pushReply p r).chans = s.chans.modify p fun c => { c with replies := c.replies ++ [r] } := rfl
@[simp] theorem Part.pushReply_play (p : Port) (r : Reply) : (s.pushReply p r).play = s.play := rfl
@[simp] theorem Part.pushReply_mem (p : Port) (r : Reply) : (s.pushReply p r).mem = s.mem := rfl
@[simp] theorem Part.pushReply_freeCount (p : Port) (r : Reply) : (s.pushReply p r).freeCount = s.freeCount := rfl
@[simp] theorem Part.pushReply_port (p : Port) (r : Reply) (q : Port) : (s.pushReply p r).port q = s.port q := rfl
@[simp] theorem Part.pushReply_inLock (p : Port) (r : Reply) (q : Port) : (s.pushReply p r).inLock q = s.inLock q := rfl
@[simp] theorem Part.pushReply_list (p : Port) (r : Reply) (q : Port) : (s.pushReply p r).list q = s.list q := rfl
@[simp] theorem Part.pushReply_entry (p : Port) (r : Reply) (q : Port) (i : Slot) : (s.pushReply p r).entry q i = s.entry q i := rfl
@[simp] theorem Part.pushReply_channel (p : Port) (r : Reply) (k' : Channel) : (s.pushReply p r).channel k' = s.channel k' := rfl
@[simp] theorem Part.pushReply_lapseTimer (p : Port) (r : Reply) (q : Port) : (s.pushReply p r).lapseTimer q = s.lapseTimer q := rfl
@[simp] theorem Part.pushReply_frameNumber (p : Port) (r : Reply) : (s.pushReply p r).frameNumber = s.frameNumber := rfl

/-! ### raise -/

@[simp] theorem Part.raise_inReset (n : Notice) : (s.raise n).inReset = s.inReset := rfl
@[simp] theorem Part.raise_ports (n : Notice) : (s.raise n).ports = s.ports := rfl
@[simp] theorem Part.raise_inStores (n : Notice) : (s.raise n).inStores = s.inStores := rfl
@[simp] theorem Part.raise_outStores (n : Notice) : (s.raise n).outStores = s.outStores := rfl
@[simp] theorem Part.raise_ref (n : Notice) : (s.raise n).ref = s.ref := rfl
@[simp] theorem Part.raise_exch (n : Notice) : (s.raise n).exch = s.exch := rfl
@[simp] theorem Part.raise_claims (n : Notice) : (s.raise n).claims = s.claims := rfl
@[simp] theorem Part.raise_lists (n : Notice) : (s.raise n).lists = s.lists := rfl
theorem Part.raise_chans (n : Notice) :
    (s.raise n).chans = .build fun p => if s.admits n p then (s.chan p).enqueue n else s.chan p := rfl
@[simp] theorem Part.raise_play (n : Notice) : (s.raise n).play = s.play := rfl
@[simp] theorem Part.raise_mem (n : Notice) : (s.raise n).mem = s.mem := rfl
@[simp] theorem Part.raise_freeCount (n : Notice) : (s.raise n).freeCount = s.freeCount := rfl
@[simp] theorem Part.raise_port (n : Notice) (q : Port) : (s.raise n).port q = s.port q := rfl
@[simp] theorem Part.raise_inLock (n : Notice) (q : Port) : (s.raise n).inLock q = s.inLock q := rfl
@[simp] theorem Part.raise_list (n : Notice) (q : Port) : (s.raise n).list q = s.list q := rfl
@[simp] theorem Part.raise_entry (n : Notice) (q : Port) (i : Slot) : (s.raise n).entry q i = s.entry q i := rfl
@[simp] theorem Part.raise_channel (n : Notice) (k' : Channel) : (s.raise n).channel k' = s.channel k' := rfl
@[simp] theorem Part.raise_lapseTimer (n : Notice) (q : Port) : (s.raise n).lapseTimer q = s.lapseTimer q := rfl
@[simp] theorem Part.raise_frameNumber (n : Notice) : (s.raise n).frameNumber = s.frameNumber := rfl

/-! ### raiseReference -/

@[simp] theorem Part.raiseReference_inReset (reason : RefReason) : (s.raiseReference reason).inReset = s.inReset := rfl
@[simp] theorem Part.raiseReference_ports (reason : RefReason) : (s.raiseReference reason).ports = s.ports := rfl
@[simp] theorem Part.raiseReference_inStores (reason : RefReason) : (s.raiseReference reason).inStores = s.inStores := rfl
@[simp] theorem Part.raiseReference_outStores (reason : RefReason) : (s.raiseReference reason).outStores = s.outStores := rfl
@[simp] theorem Part.raiseReference_ref (reason : RefReason) : (s.raiseReference reason).ref = s.ref := rfl
@[simp] theorem Part.raiseReference_exch (reason : RefReason) : (s.raiseReference reason).exch = s.exch := rfl
@[simp] theorem Part.raiseReference_claims (reason : RefReason) : (s.raiseReference reason).claims = s.claims := rfl
@[simp] theorem Part.raiseReference_lists (reason : RefReason) : (s.raiseReference reason).lists = s.lists := rfl
@[simp] theorem Part.raiseReference_play (reason : RefReason) : (s.raiseReference reason).play = s.play := rfl
@[simp] theorem Part.raiseReference_mem (reason : RefReason) : (s.raiseReference reason).mem = s.mem := rfl
@[simp] theorem Part.raiseReference_freeCount (reason : RefReason) : (s.raiseReference reason).freeCount = s.freeCount := rfl
@[simp] theorem Part.raiseReference_port (reason : RefReason) (q : Port) : (s.raiseReference reason).port q = s.port q := rfl
@[simp] theorem Part.raiseReference_inLock (reason : RefReason) (q : Port) : (s.raiseReference reason).inLock q = s.inLock q := rfl
@[simp] theorem Part.raiseReference_list (reason : RefReason) (q : Port) : (s.raiseReference reason).list q = s.list q := rfl
@[simp] theorem Part.raiseReference_entry (reason : RefReason) (q : Port) (i : Slot) : (s.raiseReference reason).entry q i = s.entry q i := rfl
@[simp] theorem Part.raiseReference_channel (reason : RefReason) (k' : Channel) : (s.raiseReference reason).channel k' = s.channel k' := rfl
@[simp] theorem Part.raiseReference_lapseTimer (reason : RefReason) (q : Port) : (s.raiseReference reason).lapseTimer q = s.lapseTimer q := rfl
@[simp] theorem Part.raiseReference_frameNumber (reason : RefReason) : (s.raiseReference reason).frameNumber = s.frameNumber := rfl

/-! ### raisePortState -/

@[simp] theorem Part.raisePortState_inReset (p : Port) (b : LockState) (c : PortCause) : (s.raisePortState p b c).inReset = s.inReset := rfl
@[simp] theorem Part.raisePortState_ports (p : Port) (b : LockState) (c : PortCause) : (s.raisePortState p b c).ports = s.ports := rfl
@[simp] theorem Part.raisePortState_inStores (p : Port) (b : LockState) (c : PortCause) : (s.raisePortState p b c).inStores = s.inStores := rfl
@[simp] theorem Part.raisePortState_outStores (p : Port) (b : LockState) (c : PortCause) : (s.raisePortState p b c).outStores = s.outStores := rfl
@[simp] theorem Part.raisePortState_ref (p : Port) (b : LockState) (c : PortCause) : (s.raisePortState p b c).ref = s.ref := rfl
@[simp] theorem Part.raisePortState_exch (p : Port) (b : LockState) (c : PortCause) : (s.raisePortState p b c).exch = s.exch := rfl
@[simp] theorem Part.raisePortState_claims (p : Port) (b : LockState) (c : PortCause) : (s.raisePortState p b c).claims = s.claims := rfl
@[simp] theorem Part.raisePortState_lists (p : Port) (b : LockState) (c : PortCause) : (s.raisePortState p b c).lists = s.lists := rfl
@[simp] theorem Part.raisePortState_play (p : Port) (b : LockState) (c : PortCause) : (s.raisePortState p b c).play = s.play := rfl
@[simp] theorem Part.raisePortState_mem (p : Port) (b : LockState) (c : PortCause) : (s.raisePortState p b c).mem = s.mem := rfl
@[simp] theorem Part.raisePortState_freeCount (p : Port) (b : LockState) (c : PortCause) : (s.raisePortState p b c).freeCount = s.freeCount := rfl
@[simp] theorem Part.raisePortState_port (p : Port) (b : LockState) (c : PortCause) (q : Port) : (s.raisePortState p b c).port q = s.port q := rfl
@[simp] theorem Part.raisePortState_inLock (p : Port) (b : LockState) (c : PortCause) (q : Port) : (s.raisePortState p b c).inLock q = s.inLock q := rfl
@[simp] theorem Part.raisePortState_list (p : Port) (b : LockState) (c : PortCause) (q : Port) : (s.raisePortState p b c).list q = s.list q := rfl
@[simp] theorem Part.raisePortState_entry (p : Port) (b : LockState) (c : PortCause) (q : Port) (i : Slot) : (s.raisePortState p b c).entry q i = s.entry q i := rfl
@[simp] theorem Part.raisePortState_channel (p : Port) (b : LockState) (c : PortCause) (k' : Channel) : (s.raisePortState p b c).channel k' = s.channel k' := rfl
@[simp] theorem Part.raisePortState_lapseTimer (p : Port) (b : LockState) (c : PortCause) (q : Port) : (s.raisePortState p b c).lapseTimer q = s.lapseTimer q := rfl
@[simp] theorem Part.raisePortState_frameNumber (p : Port) (b : LockState) (c : PortCause) : (s.raisePortState p b c).frameNumber = s.frameNumber := rfl

/-! ### slip -/

@[simp] theorem Part.slip_inReset (p : Port) (d : Direction) (k : SlipKind) : (s.slip p d k).inReset = s.inReset := rfl
@[simp] theorem Part.slip_ports (p : Port) (d : Direction) (k : SlipKind) :
    (s.slip p d k).ports = s.ports.modify p fun u => { u with counters := u.counters.addSlip d k } := rfl
@[simp] theorem Part.slip_inStores (p : Port) (d : Direction) (k : SlipKind) : (s.slip p d k).inStores = s.inStores := rfl
@[simp] theorem Part.slip_outStores (p : Port) (d : Direction) (k : SlipKind) : (s.slip p d k).outStores = s.outStores := rfl
@[simp] theorem Part.slip_ref (p : Port) (d : Direction) (k : SlipKind) : (s.slip p d k).ref = s.ref := rfl
@[simp] theorem Part.slip_exch (p : Port) (d : Direction) (k : SlipKind) : (s.slip p d k).exch = s.exch := rfl
@[simp] theorem Part.slip_claims (p : Port) (d : Direction) (k : SlipKind) : (s.slip p d k).claims = s.claims := rfl
@[simp] theorem Part.slip_lists (p : Port) (d : Direction) (k : SlipKind) : (s.slip p d k).lists = s.lists := rfl
@[simp] theorem Part.slip_play (p : Port) (d : Direction) (k : SlipKind) : (s.slip p d k).play = s.play := rfl
@[simp] theorem Part.slip_mem (p : Port) (d : Direction) (k : SlipKind) : (s.slip p d k).mem = s.mem := rfl
@[simp] theorem Part.slip_freeCount (p : Port) (d : Direction) (k : SlipKind) : (s.slip p d k).freeCount = s.freeCount := rfl
@[simp] theorem Part.slip_list (p : Port) (d : Direction) (k : SlipKind) (q : Port) : (s.slip p d k).list q = s.list q := rfl
@[simp] theorem Part.slip_entry (p : Port) (d : Direction) (k : SlipKind) (q : Port) (i : Slot) : (s.slip p d k).entry q i = s.entry q i := rfl
@[simp] theorem Part.slip_channel (p : Port) (d : Direction) (k : SlipKind) (k' : Channel) : (s.slip p d k).channel k' = s.channel k' := rfl
@[simp] theorem Part.slip_lapseTimer (p : Port) (d : Direction) (k : SlipKind) (q : Port) : (s.slip p d k).lapseTimer q = s.lapseTimer q := rfl
@[simp] theorem Part.slip_frameNumber (p : Port) (d : Direction) (k : SlipKind) : (s.slip p d k).frameNumber = s.frameNumber := rfl

/-! ### setRef -/

@[simp] theorem Part.setRef_inReset (r : RefUnit) : (s.setRef r).inReset = s.inReset := rfl
@[simp] theorem Part.setRef_ports (r : RefUnit) : (s.setRef r).ports = s.ports := rfl
@[simp] theorem Part.setRef_inStores (r : RefUnit) : (s.setRef r).inStores = s.inStores := rfl
@[simp] theorem Part.setRef_outStores (r : RefUnit) : (s.setRef r).outStores = s.outStores := rfl
@[simp] theorem Part.setRef_ref (r : RefUnit) :
    (s.setRef r).ref = r := rfl
@[simp] theorem Part.setRef_exch (r : RefUnit) : (s.setRef r).exch = s.exch := rfl
@[simp] theorem Part.setRef_claims (r : RefUnit) : (s.setRef r).claims = s.claims := rfl
@[simp] theorem Part.setRef_lists (r : RefUnit) : (s.setRef r).lists = s.lists := rfl
@[simp] theorem Part.setRef_chans (r : RefUnit) : (s.setRef r).chans = s.chans := rfl
@[simp] theorem Part.setRef_play (r : RefUnit) : (s.setRef r).play = s.play := rfl
@[simp] theorem Part.setRef_mem (r : RefUnit) : (s.setRef r).mem = s.mem := rfl
@[simp] theorem Part.setRef_freeCount (r : RefUnit) : (s.setRef r).freeCount = s.freeCount := rfl
@[simp] theorem Part.setRef_port (r : RefUnit) (q : Port) : (s.setRef r).port q = s.port q := rfl
@[simp] theorem Part.setRef_chan (r : RefUnit) (q : Port) : (s.setRef r).chan q = s.chan q := rfl
@[simp] theorem Part.setRef_inLock (r : RefUnit) (q : Port) : (s.setRef r).inLock q = s.inLock q := rfl
@[simp] theorem Part.setRef_list (r : RefUnit) (q : Port) : (s.setRef r).list q = s.list q := rfl
@[simp] theorem Part.setRef_entry (r : RefUnit) (q : Port) (i : Slot) : (s.setRef r).entry q i = s.entry q i := rfl
@[simp] theorem Part.setRef_channel (r : RefUnit) (k' : Channel) : (s.setRef r).channel k' = s.channel k' := rfl
@[simp] theorem Part.setRef_lapseTimer (r : RefUnit) (q : Port) : (s.setRef r).lapseTimer q = s.lapseTimer q := rfl
@[simp] theorem Part.setRef_frameNumber (r : RefUnit) : (s.setRef r).frameNumber = s.frameNumber := rfl

/-! ### tick -/

@[simp] theorem Part.tick_inReset : s.tick.inReset = s.inReset := rfl
@[simp] theorem Part.tick_ports : s.tick.ports = s.ports := rfl
@[simp] theorem Part.tick_inStores : s.tick.inStores = s.inStores := rfl
@[simp] theorem Part.tick_outStores : s.tick.outStores = s.outStores := rfl
@[simp] theorem Part.tick_ref :
    s.tick.ref = { s.ref with timer := s.ref.timer + 1 } := rfl
@[simp] theorem Part.tick_exch : s.tick.exch = s.exch := rfl
@[simp] theorem Part.tick_claims : s.tick.claims = s.claims := rfl
@[simp] theorem Part.tick_lists : s.tick.lists = s.lists := rfl
@[simp] theorem Part.tick_chans : s.tick.chans = s.chans := rfl
@[simp] theorem Part.tick_play : s.tick.play = s.play := rfl
@[simp] theorem Part.tick_mem : s.tick.mem = s.mem := rfl
@[simp] theorem Part.tick_freeCount : s.tick.freeCount = s.freeCount := rfl
@[simp] theorem Part.tick_port (q : Port) : s.tick.port q = s.port q := rfl
@[simp] theorem Part.tick_chan (q : Port) : s.tick.chan q = s.chan q := rfl
@[simp] theorem Part.tick_inLock (q : Port) : s.tick.inLock q = s.inLock q := rfl
@[simp] theorem Part.tick_list (q : Port) : s.tick.list q = s.list q := rfl
@[simp] theorem Part.tick_entry (q : Port) (i : Slot) : s.tick.entry q i = s.entry q i := rfl
@[simp] theorem Part.tick_channel (k' : Channel) : s.tick.channel k' = s.channel k' := rfl
@[simp] theorem Part.tick_lapseTimer (q : Port) : s.tick.lapseTimer q = s.lapseTimer q := rfl
@[simp] theorem Part.tick_frameNumber : s.tick.frameNumber = s.frameNumber := rfl

/-! ### setMem -/

@[simp] theorem Part.setMem_inReset (m : MemPort) : (s.setMem m).inReset = s.inReset := rfl
@[simp] theorem Part.setMem_ports (m : MemPort) : (s.setMem m).ports = s.ports := rfl
@[simp] theorem Part.setMem_inStores (m : MemPort) : (s.setMem m).inStores = s.inStores := rfl
@[simp] theorem Part.setMem_outStores (m : MemPort) : (s.setMem m).outStores = s.outStores := rfl
@[simp] theorem Part.setMem_ref (m : MemPort) : (s.setMem m).ref = s.ref := rfl
@[simp] theorem Part.setMem_exch (m : MemPort) : (s.setMem m).exch = s.exch := rfl
@[simp] theorem Part.setMem_claims (m : MemPort) : (s.setMem m).claims = s.claims := rfl
@[simp] theorem Part.setMem_lists (m : MemPort) : (s.setMem m).lists = s.lists := rfl
@[simp] theorem Part.setMem_chans (m : MemPort) : (s.setMem m).chans = s.chans := rfl
@[simp] theorem Part.setMem_play (m : MemPort) : (s.setMem m).play = s.play := rfl
@[simp] theorem Part.setMem_mem (m : MemPort) :
    (s.setMem m).mem = m := rfl
@[simp] theorem Part.setMem_freeCount (m : MemPort) : (s.setMem m).freeCount = s.freeCount := rfl
@[simp] theorem Part.setMem_port (m : MemPort) (q : Port) : (s.setMem m).port q = s.port q := rfl
@[simp] theorem Part.setMem_chan (m : MemPort) (q : Port) : (s.setMem m).chan q = s.chan q := rfl
@[simp] theorem Part.setMem_inLock (m : MemPort) (q : Port) : (s.setMem m).inLock q = s.inLock q := rfl
@[simp] theorem Part.setMem_list (m : MemPort) (q : Port) : (s.setMem m).list q = s.list q := rfl
@[simp] theorem Part.setMem_entry (m : MemPort) (q : Port) (i : Slot) : (s.setMem m).entry q i = s.entry q i := rfl
@[simp] theorem Part.setMem_channel (m : MemPort) (k' : Channel) : (s.setMem m).channel k' = s.channel k' := rfl
@[simp] theorem Part.setMem_lapseTimer (m : MemPort) (q : Port) : (s.setMem m).lapseTimer q = s.lapseTimer q := rfl
@[simp] theorem Part.setMem_frameNumber (m : MemPort) : (s.setMem m).frameNumber = s.frameNumber := rfl

/-! ### setLoanReq -/

@[simp] theorem Part.setLoanReq_inReset (b : Bool) : (s.setLoanReq b).inReset = s.inReset := rfl
@[simp] theorem Part.setLoanReq_ports (b : Bool) : (s.setLoanReq b).ports = s.ports := rfl
@[simp] theorem Part.setLoanReq_inStores (b : Bool) : (s.setLoanReq b).inStores = s.inStores := rfl
@[simp] theorem Part.setLoanReq_outStores (b : Bool) : (s.setLoanReq b).outStores = s.outStores := rfl
@[simp] theorem Part.setLoanReq_ref (b : Bool) : (s.setLoanReq b).ref = s.ref := rfl
@[simp] theorem Part.setLoanReq_exch (b : Bool) : (s.setLoanReq b).exch = s.exch := rfl
@[simp] theorem Part.setLoanReq_claims (b : Bool) : (s.setLoanReq b).claims = s.claims := rfl
@[simp] theorem Part.setLoanReq_lists (b : Bool) : (s.setLoanReq b).lists = s.lists := rfl
@[simp] theorem Part.setLoanReq_chans (b : Bool) : (s.setLoanReq b).chans = s.chans := rfl
@[simp] theorem Part.setLoanReq_play (b : Bool) : (s.setLoanReq b).play = s.play := rfl
@[simp] theorem Part.setLoanReq_mem (b : Bool) :
    (s.setLoanReq b).mem = { s.mem with loanReq := b } := rfl
@[simp] theorem Part.setLoanReq_freeCount (b : Bool) : (s.setLoanReq b).freeCount = s.freeCount := rfl
@[simp] theorem Part.setLoanReq_port (b : Bool) (q : Port) : (s.setLoanReq b).port q = s.port q := rfl
@[simp] theorem Part.setLoanReq_chan (b : Bool) (q : Port) : (s.setLoanReq b).chan q = s.chan q := rfl
@[simp] theorem Part.setLoanReq_inLock (b : Bool) (q : Port) : (s.setLoanReq b).inLock q = s.inLock q := rfl
@[simp] theorem Part.setLoanReq_list (b : Bool) (q : Port) : (s.setLoanReq b).list q = s.list q := rfl
@[simp] theorem Part.setLoanReq_entry (b : Bool) (q : Port) (i : Slot) : (s.setLoanReq b).entry q i = s.entry q i := rfl
@[simp] theorem Part.setLoanReq_channel (b : Bool) (k' : Channel) : (s.setLoanReq b).channel k' = s.channel k' := rfl
@[simp] theorem Part.setLoanReq_lapseTimer (b : Bool) (q : Port) : (s.setLoanReq b).lapseTimer q = s.lapseTimer q := rfl
@[simp] theorem Part.setLoanReq_frameNumber (b : Bool) : (s.setLoanReq b).frameNumber = s.frameNumber := rfl

/-! ### setChannel -/

@[simp] theorem Part.setChannel_inReset (k : Channel) (c : ChannelRecord) : (s.setChannel k c).inReset = s.inReset := rfl
@[simp] theorem Part.setChannel_ports (k : Channel) (c : ChannelRecord) : (s.setChannel k c).ports = s.ports := rfl
@[simp] theorem Part.setChannel_inStores (k : Channel) (c : ChannelRecord) : (s.setChannel k c).inStores = s.inStores := rfl
@[simp] theorem Part.setChannel_outStores (k : Channel) (c : ChannelRecord) : (s.setChannel k c).outStores = s.outStores := rfl
@[simp] theorem Part.setChannel_ref (k : Channel) (c : ChannelRecord) : (s.setChannel k c).ref = s.ref := rfl
@[simp] theorem Part.setChannel_exch (k : Channel) (c : ChannelRecord) : (s.setChannel k c).exch = s.exch := rfl
@[simp] theorem Part.setChannel_claims (k : Channel) (c : ChannelRecord) : (s.setChannel k c).claims = s.claims := rfl
@[simp] theorem Part.setChannel_lists (k : Channel) (c : ChannelRecord) : (s.setChannel k c).lists = s.lists := rfl
@[simp] theorem Part.setChannel_chans (k : Channel) (c : ChannelRecord) : (s.setChannel k c).chans = s.chans := rfl
@[simp] theorem Part.setChannel_play (k : Channel) (c : ChannelRecord) :
    (s.setChannel k c).play = { s.play with channels := s.play.channels.set k c } := rfl
@[simp] theorem Part.setChannel_mem (k : Channel) (c : ChannelRecord) : (s.setChannel k c).mem = s.mem := rfl
@[simp] theorem Part.setChannel_freeCount (k : Channel) (c : ChannelRecord) : (s.setChannel k c).freeCount = s.freeCount := rfl
@[simp] theorem Part.setChannel_port (k : Channel) (c : ChannelRecord) (q : Port) : (s.setChannel k c).port q = s.port q := rfl
@[simp] theorem Part.setChannel_chan (k : Channel) (c : ChannelRecord) (q : Port) : (s.setChannel k c).chan q = s.chan q := rfl
@[simp] theorem Part.setChannel_inLock (k : Channel) (c : ChannelRecord) (q : Port) : (s.setChannel k c).inLock q = s.inLock q := rfl
@[simp] theorem Part.setChannel_list (k : Channel) (c : ChannelRecord) (q : Port) : (s.setChannel k c).list q = s.list q := rfl
@[simp] theorem Part.setChannel_entry (k : Channel) (c : ChannelRecord) (q : Port) (i : Slot) : (s.setChannel k c).entry q i = s.entry q i := rfl
@[simp] theorem Part.setChannel_lapseTimer (k : Channel) (c : ChannelRecord) (q : Port) : (s.setChannel k c).lapseTimer q = s.lapseTimer q := rfl
@[simp] theorem Part.setChannel_frameNumber (k : Channel) (c : ChannelRecord) : (s.setChannel k c).frameNumber = s.frameNumber := rfl

/-! ### setFetches -/

@[simp] theorem Part.setFetches_inReset (fs : List Fetch) : (s.setFetches fs).inReset = s.inReset := rfl
@[simp] theorem Part.setFetches_ports (fs : List Fetch) : (s.setFetches fs).ports = s.ports := rfl
@[simp] theorem Part.setFetches_inStores (fs : List Fetch) : (s.setFetches fs).inStores = s.inStores := rfl
@[simp] theorem Part.setFetches_outStores (fs : List Fetch) : (s.setFetches fs).outStores = s.outStores := rfl
@[simp] theorem Part.setFetches_ref (fs : List Fetch) : (s.setFetches fs).ref = s.ref := rfl
@[simp] theorem Part.setFetches_exch (fs : List Fetch) : (s.setFetches fs).exch = s.exch := rfl
@[simp] theorem Part.setFetches_claims (fs : List Fetch) : (s.setFetches fs).claims = s.claims := rfl
@[simp] theorem Part.setFetches_lists (fs : List Fetch) : (s.setFetches fs).lists = s.lists := rfl
@[simp] theorem Part.setFetches_chans (fs : List Fetch) : (s.setFetches fs).chans = s.chans := rfl
@[simp] theorem Part.setFetches_play (fs : List Fetch) :
    (s.setFetches fs).play = { s.play with fetches := fs } := rfl
@[simp] theorem Part.setFetches_mem (fs : List Fetch) : (s.setFetches fs).mem = s.mem := rfl
@[simp] theorem Part.setFetches_freeCount (fs : List Fetch) : (s.setFetches fs).freeCount = s.freeCount := rfl
@[simp] theorem Part.setFetches_port (fs : List Fetch) (q : Port) : (s.setFetches fs).port q = s.port q := rfl
@[simp] theorem Part.setFetches_chan (fs : List Fetch) (q : Port) : (s.setFetches fs).chan q = s.chan q := rfl
@[simp] theorem Part.setFetches_inLock (fs : List Fetch) (q : Port) : (s.setFetches fs).inLock q = s.inLock q := rfl
@[simp] theorem Part.setFetches_list (fs : List Fetch) (q : Port) : (s.setFetches fs).list q = s.list q := rfl
@[simp] theorem Part.setFetches_entry (fs : List Fetch) (q : Port) (i : Slot) : (s.setFetches fs).entry q i = s.entry q i := rfl
@[simp] theorem Part.setFetches_lapseTimer (fs : List Fetch) (q : Port) : (s.setFetches fs).lapseTimer q = s.lapseTimer q := rfl
@[simp] theorem Part.setFetches_frameNumber (fs : List Fetch) : (s.setFetches fs).frameNumber = s.frameNumber := rfl

/-! ### setCache -/

@[simp] theorem Part.setCache_inReset (cache : List CacheEntry) : (s.setCache cache).inReset = s.inReset := rfl
@[simp] theorem Part.setCache_ports (cache : List CacheEntry) : (s.setCache cache).ports = s.ports := rfl
@[simp] theorem Part.setCache_inStores (cache : List CacheEntry) : (s.setCache cache).inStores = s.inStores := rfl
@[simp] theorem Part.setCache_outStores (cache : List CacheEntry) : (s.setCache cache).outStores = s.outStores := rfl
@[simp] theorem Part.setCache_ref (cache : List CacheEntry) : (s.setCache cache).ref = s.ref := rfl
@[simp] theorem Part.setCache_exch (cache : List CacheEntry) : (s.setCache cache).exch = s.exch := rfl
@[simp] theorem Part.setCache_claims (cache : List CacheEntry) : (s.setCache cache).claims = s.claims := rfl
@[simp] theorem Part.setCache_lists (cache : List CacheEntry) : (s.setCache cache).lists = s.lists := rfl
@[simp] theorem Part.setCache_chans (cache : List CacheEntry) : (s.setCache cache).chans = s.chans := rfl
@[simp] theorem Part.setCache_play (cache : List CacheEntry) :
    (s.setCache cache).play = { s.play with cache := cache } := rfl
@[simp] theorem Part.setCache_mem (cache : List CacheEntry) : (s.setCache cache).mem = s.mem := rfl
@[simp] theorem Part.setCache_freeCount (cache : List CacheEntry) : (s.setCache cache).freeCount = s.freeCount := rfl
@[simp] theorem Part.setCache_port (cache : List CacheEntry) (q : Port) : (s.setCache cache).port q = s.port q := rfl
@[simp] theorem Part.setCache_chan (cache : List CacheEntry) (q : Port) : (s.setCache cache).chan q = s.chan q := rfl
@[simp] theorem Part.setCache_inLock (cache : List CacheEntry) (q : Port) : (s.setCache cache).inLock q = s.inLock q := rfl
@[simp] theorem Part.setCache_list (cache : List CacheEntry) (q : Port) : (s.setCache cache).list q = s.list q := rfl
@[simp] theorem Part.setCache_entry (cache : List CacheEntry) (q : Port) (i : Slot) : (s.setCache cache).entry q i = s.entry q i := rfl
@[simp] theorem Part.setCache_lapseTimer (cache : List CacheEntry) (q : Port) : (s.setCache cache).lapseTimer q = s.lapseTimer q := rfl
@[simp] theorem Part.setCache_frameNumber (cache : List CacheEntry) : (s.setCache cache).frameNumber = s.frameNumber := rfl

/-! ### clearList -/

@[simp] theorem Part.clearList_inReset (p : Port) : (s.clearList p).inReset = s.inReset := rfl
@[simp] theorem Part.clearList_ports (p : Port) : (s.clearList p).ports = s.ports := rfl
@[simp] theorem Part.clearList_inStores (p : Port) : (s.clearList p).inStores = s.inStores := rfl
@[simp] theorem Part.clearList_outStores (p : Port) : (s.clearList p).outStores = s.outStores := rfl
@[simp] theorem Part.clearList_ref (p : Port) : (s.clearList p).ref = s.ref := rfl
@[simp] theorem Part.clearList_exch (p : Port) : (s.clearList p).exch = s.exch := rfl
@[simp] theorem Part.clearList_claims (p : Port) : (s.clearList p).claims = s.claims := rfl
@[simp] theorem Part.clearList_lists (p : Port) :
    (s.clearList p).lists = s.lists.set p .cleared := rfl
@[simp] theorem Part.clearList_chans (p : Port) : (s.clearList p).chans = s.chans := rfl
@[simp] theorem Part.clearList_play (p : Port) : (s.clearList p).play = s.play := rfl
@[simp] theorem Part.clearList_mem (p : Port) : (s.clearList p).mem = s.mem := rfl
@[simp] theorem Part.clearList_freeCount (p : Port) : (s.clearList p).freeCount = s.freeCount := rfl
@[simp] theorem Part.clearList_port (p : Port) (q : Port) : (s.clearList p).port q = s.port q := rfl
@[simp] theorem Part.clearList_chan (p : Port) (q : Port) : (s.clearList p).chan q = s.chan q := rfl
@[simp] theorem Part.clearList_inLock (p : Port) (q : Port) : (s.clearList p).inLock q = s.inLock q := rfl
@[simp] theorem Part.clearList_entry (p : Port) (q : Port) (i : Slot) : (s.clearList p).entry q i = s.entry q i := rfl
@[simp] theorem Part.clearList_channel (p : Port) (k' : Channel) : (s.clearList p).channel k' = s.channel k' := rfl
@[simp] theorem Part.clearList_lapseTimer (p : Port) (q : Port) : (s.clearList p).lapseTimer q = s.lapseTimer q := rfl
@[simp] theorem Part.clearList_frameNumber (p : Port) : (s.clearList p).frameNumber = s.frameNumber := rfl

/-! ### setLapseTimer -/

@[simp] theorem Part.setLapseTimer_inReset (p : Port) (n : Nat) : (s.setLapseTimer p n).inReset = s.inReset := rfl
@[simp] theorem Part.setLapseTimer_ports (p : Port) (n : Nat) : (s.setLapseTimer p n).ports = s.ports := rfl
@[simp] theorem Part.setLapseTimer_inStores (p : Port) (n : Nat) : (s.setLapseTimer p n).inStores = s.inStores := rfl
@[simp] theorem Part.setLapseTimer_outStores (p : Port) (n : Nat) : (s.setLapseTimer p n).outStores = s.outStores := rfl
@[simp] theorem Part.setLapseTimer_ref (p : Port) (n : Nat) : (s.setLapseTimer p n).ref = s.ref := rfl
@[simp] theorem Part.setLapseTimer_exch (p : Port) (n : Nat) : (s.setLapseTimer p n).exch = s.exch := rfl
@[simp] theorem Part.setLapseTimer_claims (p : Port) (n : Nat) :
    (s.setLapseTimer p n).claims = { s.claims with lapse := s.claims.lapse.set p n } := rfl
@[simp] theorem Part.setLapseTimer_lists (p : Port) (n : Nat) : (s.setLapseTimer p n).lists = s.lists := rfl
@[simp] theorem Part.setLapseTimer_chans (p : Port) (n : Nat) : (s.setLapseTimer p n).chans = s.chans := rfl
@[simp] theorem Part.setLapseTimer_play (p : Port) (n : Nat) : (s.setLapseTimer p n).play = s.play := rfl
@[simp] theorem Part.setLapseTimer_mem (p : Port) (n : Nat) : (s.setLapseTimer p n).mem = s.mem := rfl
@[simp] theorem Part.setLapseTimer_freeCount (p : Port) (n : Nat) : (s.setLapseTimer p n).freeCount = s.freeCount := rfl
@[simp] theorem Part.setLapseTimer_port (p : Port) (n : Nat) (q : Port) : (s.setLapseTimer p n).port q = s.port q := rfl
@[simp] theorem Part.setLapseTimer_chan (p : Port) (n : Nat) (q : Port) : (s.setLapseTimer p n).chan q = s.chan q := rfl
@[simp] theorem Part.setLapseTimer_inLock (p : Port) (n : Nat) (q : Port) : (s.setLapseTimer p n).inLock q = s.inLock q := rfl
@[simp] theorem Part.setLapseTimer_list (p : Port) (n : Nat) (q : Port) : (s.setLapseTimer p n).list q = s.list q := rfl
@[simp] theorem Part.setLapseTimer_entry (p : Port) (n : Nat) (q : Port) (i : Slot) : (s.setLapseTimer p n).entry q i = s.entry q i := rfl
@[simp] theorem Part.setLapseTimer_channel (p : Port) (n : Nat) (k' : Channel) : (s.setLapseTimer p n).channel k' = s.channel k' := rfl
@[simp] theorem Part.setLapseTimer_frameNumber (p : Port) (n : Nat) : (s.setLapseTimer p n).frameNumber = s.frameNumber := rfl

/-! ### advanceCounter -/

@[simp] theorem Part.advanceCounter_inReset : s.advanceCounter.inReset = s.inReset := rfl
@[simp] theorem Part.advanceCounter_ports : s.advanceCounter.ports = s.ports := rfl
@[simp] theorem Part.advanceCounter_inStores : s.advanceCounter.inStores = s.inStores := rfl
@[simp] theorem Part.advanceCounter_outStores : s.advanceCounter.outStores = s.outStores := rfl
@[simp] theorem Part.advanceCounter_ref : s.advanceCounter.ref = s.ref := rfl
@[simp] theorem Part.advanceCounter_exch :
    s.advanceCounter.exch = { s.exch with counter := s.exch.counter + 1 } := rfl
@[simp] theorem Part.advanceCounter_claims : s.advanceCounter.claims = s.claims := rfl
@[simp] theorem Part.advanceCounter_lists : s.advanceCounter.lists = s.lists := rfl
@[simp] theorem Part.advanceCounter_chans : s.advanceCounter.chans = s.chans := rfl
@[simp] theorem Part.advanceCounter_play : s.advanceCounter.play = s.play := rfl
@[simp] theorem Part.advanceCounter_mem : s.advanceCounter.mem = s.mem := rfl
@[simp] theorem Part.advanceCounter_freeCount : s.advanceCounter.freeCount = s.freeCount := rfl
@[simp] theorem Part.advanceCounter_port (q : Port) : s.advanceCounter.port q = s.port q := rfl
@[simp] theorem Part.advanceCounter_chan (q : Port) : s.advanceCounter.chan q = s.chan q := rfl
@[simp] theorem Part.advanceCounter_inLock (q : Port) : s.advanceCounter.inLock q = s.inLock q := rfl
@[simp] theorem Part.advanceCounter_list (q : Port) : s.advanceCounter.list q = s.list q := rfl
@[simp] theorem Part.advanceCounter_channel (k' : Channel) : s.advanceCounter.channel k' = s.channel k' := rfl
@[simp] theorem Part.advanceCounter_lapseTimer (q : Port) : s.advanceCounter.lapseTimer q = s.lapseTimer q := rfl

/-! ### flushStores -/

@[simp] theorem Part.flushStores_inReset (p : Port) : (s.flushStores p).inReset = s.inReset := rfl
@[simp] theorem Part.flushStores_ports (p : Port) : (s.flushStores p).ports = s.ports := rfl
@[simp] theorem Part.flushStores_inStores (p : Port) :
    (s.flushStores p).inStores = s.inStores.set p (.flushed (s.port p).profile.depth) := rfl
@[simp] theorem Part.flushStores_outStores (p : Port) :
    (s.flushStores p).outStores = s.outStores.set p (.flushed (s.port p).profile.depth) := rfl
@[simp] theorem Part.flushStores_ref (p : Port) : (s.flushStores p).ref = s.ref := rfl
@[simp] theorem Part.flushStores_exch (p : Port) : (s.flushStores p).exch = s.exch := rfl
@[simp] theorem Part.flushStores_claims (p : Port) : (s.flushStores p).claims = s.claims := rfl
@[simp] theorem Part.flushStores_lists (p : Port) : (s.flushStores p).lists = s.lists := rfl
@[simp] theorem Part.flushStores_chans (p : Port) : (s.flushStores p).chans = s.chans := rfl
@[simp] theorem Part.flushStores_play (p : Port) : (s.flushStores p).play = s.play := rfl
@[simp] theorem Part.flushStores_mem (p : Port) : (s.flushStores p).mem = s.mem := rfl
@[simp] theorem Part.flushStores_freeCount (p : Port) : (s.flushStores p).freeCount = s.freeCount := rfl
@[simp] theorem Part.flushStores_port (p : Port) (q : Port) : (s.flushStores p).port q = s.port q := rfl
@[simp] theorem Part.flushStores_chan (p : Port) (q : Port) : (s.flushStores p).chan q = s.chan q := rfl
@[simp] theorem Part.flushStores_inLock (p : Port) (q : Port) : (s.flushStores p).inLock q = s.inLock q := rfl
@[simp] theorem Part.flushStores_list (p : Port) (q : Port) : (s.flushStores p).list q = s.list q := rfl
@[simp] theorem Part.flushStores_entry (p : Port) (q : Port) (i : Slot) : (s.flushStores p).entry q i = s.entry q i := rfl
@[simp] theorem Part.flushStores_channel (p : Port) (k' : Channel) : (s.flushStores p).channel k' = s.channel k' := rfl
@[simp] theorem Part.flushStores_lapseTimer (p : Port) (q : Port) : (s.flushStores p).lapseTimer q = s.lapseTimer q := rfl
@[simp] theorem Part.flushStores_frameNumber (p : Port) : (s.flushStores p).frameNumber = s.frameNumber := rfl

/-! ### drivePins -/

@[simp] theorem Part.drivePins_inReset : s.drivePins.inReset = s.inReset := rfl
@[simp] theorem Part.drivePins_ports : s.drivePins.ports = s.ports := rfl
@[simp] theorem Part.drivePins_inStores : s.drivePins.inStores = s.inStores := rfl
@[simp] theorem Part.drivePins_outStores : s.drivePins.outStores = s.outStores := rfl
@[simp] theorem Part.drivePins_ref : s.drivePins.ref = s.ref := rfl
@[simp] theorem Part.drivePins_exch : s.drivePins.exch = s.exch := rfl
@[simp] theorem Part.drivePins_claims : s.drivePins.claims = s.claims := rfl
@[simp] theorem Part.drivePins_lists : s.drivePins.lists = s.lists := rfl
@[simp] theorem Part.drivePins_chans : s.drivePins.chans = s.chans := rfl
@[simp] theorem Part.drivePins_play : s.drivePins.play = s.play := rfl
@[simp] theorem Part.drivePins_mem :
    s.drivePins.mem = { s.mem with
      state := .idle, loanGnt := false, mck := false
      mdo := if s.mem.quiet then s.mem.mdo else Config.freeLevel s.freeCount } := rfl
@[simp] theorem Part.drivePins_freeCount :
    s.drivePins.freeCount = if s.mem.quiet then s.freeCount else s.freeCount + 1 := rfl
@[simp] theorem Part.drivePins_port (q : Port) : s.drivePins.port q = s.port q := rfl
@[simp] theorem Part.drivePins_chan (q : Port) : s.drivePins.chan q = s.chan q := rfl
@[simp] theorem Part.drivePins_inLock (q : Port) : s.drivePins.inLock q = s.inLock q := rfl
@[simp] theorem Part.drivePins_list (q : Port) : s.drivePins.list q = s.list q := rfl
@[simp] theorem Part.drivePins_entry (q : Port) (i : Slot) : s.drivePins.entry q i = s.entry q i := rfl
@[simp] theorem Part.drivePins_channel (k' : Channel) : s.drivePins.channel k' = s.channel k' := rfl
@[simp] theorem Part.drivePins_lapseTimer (q : Port) : s.drivePins.lapseTimer q = s.lapseTimer q := rfl
@[simp] theorem Part.drivePins_frameNumber : s.drivePins.frameNumber = s.frameNumber := rfl

/-! ### endTransaction -/

@[simp] theorem Part.endTransaction_inReset : s.endTransaction.inReset = s.inReset := rfl
@[simp] theorem Part.endTransaction_ports : s.endTransaction.ports = s.ports := rfl
@[simp] theorem Part.endTransaction_inStores : s.endTransaction.inStores = s.inStores := rfl
@[simp] theorem Part.endTransaction_outStores : s.endTransaction.outStores = s.outStores := rfl
@[simp] theorem Part.endTransaction_ref : s.endTransaction.ref = s.ref := rfl
@[simp] theorem Part.endTransaction_exch : s.endTransaction.exch = s.exch := rfl
@[simp] theorem Part.endTransaction_claims : s.endTransaction.claims = s.claims := rfl
@[simp] theorem Part.endTransaction_lists : s.endTransaction.lists = s.lists := rfl
@[simp] theorem Part.endTransaction_chans : s.endTransaction.chans = s.chans := rfl
@[simp] theorem Part.endTransaction_play : s.endTransaction.play = s.play := rfl
@[simp] theorem Part.endTransaction_mem :
    s.endTransaction.mem = { s.mem with
      burst := none, mck := Config.freeLevel s.freeCount, mdo := Config.freeLevel (s.freeCount + 1) } := rfl
@[simp] theorem Part.endTransaction_freeCount :
    s.endTransaction.freeCount = s.freeCount + 2 := rfl
@[simp] theorem Part.endTransaction_port (q : Port) : s.endTransaction.port q = s.port q := rfl
@[simp] theorem Part.endTransaction_chan (q : Port) : s.endTransaction.chan q = s.chan q := rfl
@[simp] theorem Part.endTransaction_inLock (q : Port) : s.endTransaction.inLock q = s.inLock q := rfl
@[simp] theorem Part.endTransaction_list (q : Port) : s.endTransaction.list q = s.list q := rfl
@[simp] theorem Part.endTransaction_entry (q : Port) (i : Slot) : s.endTransaction.entry q i = s.entry q i := rfl
@[simp] theorem Part.endTransaction_channel (k' : Channel) : s.endTransaction.channel k' = s.channel k' := rfl
@[simp] theorem Part.endTransaction_lapseTimer (q : Port) : s.endTransaction.lapseTimer q = s.lapseTimer q := rfl
@[simp] theorem Part.endTransaction_frameNumber : s.endTransaction.frameNumber = s.frameNumber := rfl

/-! ### issue -/

variable (m : MemPort) (b : Burst)

@[simp] theorem MemPort.issue_state : (m.issue b).state = .reading := rfl
@[simp] theorem MemPort.issue_burst : (m.issue b).burst = some b := rfl
@[simp] theorem MemPort.issue_pointer : (m.issue b).pointer = m.pointer := rfl
@[simp] theorem MemPort.issue_size : (m.issue b).size = m.size := rfl
@[simp] theorem MemPort.issue_loanGnt : (m.issue b).loanGnt = m.loanGnt := rfl
@[simp] theorem MemPort.issue_loanReq : (m.issue b).loanReq = m.loanReq := rfl
@[simp] theorem MemPort.issue_quiet : (m.issue b).quiet = false := rfl
@[simp] theorem MemPort.issue_mck : (m.issue b).mck = m.mck := rfl
@[simp] theorem MemPort.issue_mdo : (m.issue b).mdo = m.mdo := rfl

end Sys2Proof.Machine
end

