-- ==== Sys2Proof/Laws/Ops.lean ====
section
/-! SUPPORT. What one record of the part is after a named update (the record updated, and every other), what
raising a notice does, how a fold over the ports or channels acts on one of them, and that the frames
of a store keep their length. -/

namespace Sys2Proof.Machine

open Sys2Proof

variable (s : Part)

/-! ### One record after an update -/

theorem Part.modifyPort_port (p q : Port) (f : PortUnit → PortUnit) :
    (s.modifyPort p f).port q = if q = p then f (s.port p) else s.port q := Bank.get_modify ..

@[simp] theorem Part.modifyPort_port_self (p : Port) (f : PortUnit → PortUnit) :
    (s.modifyPort p f).port p = f (s.port p) := by simp [Part.modifyPort_port]

theorem Part.modifyPort_port_ne {p q : Port} (f : PortUnit → PortUnit) (h : q ≠ p) :
    (s.modifyPort p f).port q = s.port q := by simp [Part.modifyPort_port, h]

theorem Part.modifyChan_chan (p q : Port) (f : ControlChannel → ControlChannel) :
    (s.modifyChan p f).chan q = if q = p then f (s.chan p) else s.chan q := Bank.get_modify ..

@[simp] theorem Part.modifyChan_chan_self (p : Port) (f : ControlChannel → ControlChannel) :
    (s.modifyChan p f).chan p = f (s.chan p) := by simp [Part.modifyChan_chan]

theorem Part.modifyChan_chan_ne {p q : Port} (f : ControlChannel → ControlChannel) (h : q ≠ p) :
    (s.modifyChan p f).chan q = s.chan q := by simp [Part.modifyChan_chan, h]

theorem Part.count_port (p q : Port) (f : Counters → Counters) :
    (s.count p f).port q =
      if q = p then { s.port p with counters := f (s.port p).counters } else s.port q :=
  Bank.get_modify ..

@[simp] theorem Part.count_inLock (p q : Port) (f : Counters → Counters) :
    (s.count p f).inLock q = s.inLock q := by
  by_cases h : q = p <;> simp [Part.inLock, Part.count_port, h]

theorem Part.setOwing_port (p q : Port) (o : Owing) :
    (s.setOwing p o).port q = if q = p then { s.port p with owing := o } else s.port q :=
  Bank.get_modify ..

@[simp] theorem Part.setOwing_inLock (p q : Port) (o : Owing) :
    (s.setOwing p o).inLock q = s.inLock q := by
  by_cases h : q = p <;> simp [Part.inLock, Part.setOwing_port, h]

theorem Part.setReceiver_chan (p q : Port) (r : Receiver) :
    (s.setReceiver p r).chan q = if q = p then { s.chan p with rx := r } else s.chan q :=
  Bank.get_modify ..

theorem Part.pushReply_chan (p q : Port) (r : Reply) :
    (s.pushReply p r).chan q =
      if q = p then { s.chan p with replies := (s.chan p).replies ++ [r] } else s.chan q :=
  Bank.get_modify ..

theorem Part.setChannel_channel (k j : Channel) (c : ChannelRecord) :
    (s.setChannel k c).channel j = if j = k then c else s.channel j := Bank.get_set ..

@[simp] theorem Part.setChannel_channel_self (k : Channel) (c : ChannelRecord) :
    (s.setChannel k c).channel k = c := by simp [Part.setChannel_channel]

@[simp] theorem Part.setFetches_channel (fs : List Fetch) (k : Channel) :
    (s.setFetches fs).channel k = s.channel k := rfl

@[simp] theorem Part.setCache_channel (cache : List CacheEntry) (k : Channel) :
    (s.setCache cache).channel k = s.channel k := rfl

theorem Part.clearList_list (p q : Port) :
    (s.clearList p).list q = if q = p then .cleared else s.list q := Bank.get_set ..

theorem Part.setLapseTimer_lapseTimer (p q : Port) (n : Nat) :
    (s.setLapseTimer p n).lapseTimer q = if q = p then n else s.lapseTimer q := Bank.get_set ..

@[simp] theorem Part.setLapseTimer_holder (p : Port) (n : Nat) (o : ClaimObject) :
    (s.setLapseTimer p n).claims.holder o = s.claims.holder o := by cases o <;> rfl

/-! ### Raising a notice (R114, R115) -/

theorem Part.raise_chan (n : Notice) (p : Port) :
    (s.raise n).chan p = if s.admits n p then (s.chan p).enqueue n else s.chan p := Bank.get_build ..

/-- A port out of lock is admitted to no notice. -/
theorem Part.admits_inLock {s : Part} {n : Notice} {p : Port} (h : s.admits n p = true) :
    s.inLock p = true := by
  simp only [Part.admits, Bool.and_eq_true] at h
  exact h.1

/-- An admitted notice joins the notice queue, or is counted as lost: nothing else of the channel moves. -/
theorem ControlChannel.enqueue_eq (c : ControlChannel) (n : Notice) :
    c.enqueue n = { c with notices := (c.enqueue n).notices, lost := (c.enqueue n).lost } := by
  unfold ControlChannel.enqueue
  split <;> rfl

theorem ControlChannel.enqueue_notices_le (c : ControlChannel) (n : Notice)
    (h : c.notices.length ≤ 8) : (c.enqueue n).notices.length ≤ 8 := by
  unfold ControlChannel.enqueue
  split
  · simp only [List.length_append, List.length_singleton]; omega
  · exact h

theorem ControlChannel.foldl_enqueue_eq (ns : List Notice) (c : ControlChannel) :
    ns.foldl ControlChannel.enqueue c =
      { c with
        notices := (ns.foldl ControlChannel.enqueue c).notices
        lost := (ns.foldl ControlChannel.enqueue c).lost } := by
  induction ns generalizing c with
  | nil => rfl
  | cons n ns ih =>
    have h := ih (c.enqueue n)
    rw [List.foldl_cons, h]
    generalize (ns.foldl ControlChannel.enqueue (c.enqueue n)) = d at h ⊢
    have e := c.enqueue_eq n
    generalize c.enqueue n = e' at e ⊢
    rw [e]

/-- Between `s` and `t` the channels changed by notices that reached ports in lock, and in no other way. -/
def Part.notified (s t : Part) : Prop :=
  ∀ p, ∃ ns : List Notice,
    t.chan p = ns.foldl ControlChannel.enqueue (s.chan p) ∧ (s.inLock p = false → ns = [])

theorem Part.notified_of_eq {s t : Part} (h : t.chans = s.chans) : s.notified t := fun p =>
  ⟨[], by simp [Part.chan, h], fun _ => rfl⟩

theorem Part.notified_refl (s : Part) : s.notified s := Part.notified_of_eq rfl

theorem Part.notified_trans {s t u : Part} (hl : ∀ p, t.inLock p = s.inLock p) (h1 : s.notified t)
    (h2 : t.notified u) : s.notified u := by
  intro p
  obtain ⟨ns, e, z⟩ := h1 p
  obtain ⟨ms, e', z'⟩ := h2 p
  refine ⟨ns ++ ms, by rw [e', e, List.foldl_append], fun h => ?_⟩
  rw [z h, z' (by rw [hl, h])]
  rfl

theorem Part.notified_raise (n : Notice) : s.notified (s.raise n) := by
  intro p
  by_cases h : s.admits n p = true
  · exact ⟨[n], by simp [Part.raise_chan, h], fun hl => by
      rw [Part.admits_inLock h] at hl; exact absurd hl (by decide)⟩
  · exact ⟨[], by simp [Part.raise_chan, h], fun _ => rfl⟩

theorem Part.onlyNoticesJoined_of_notified {s t : Part} (h : s.notified t) : s.onlyNoticesJoined t := by
  intro p
  obtain ⟨ns, e, z⟩ := h p
  refine ⟨?_, fun hl => by rw [e, z hl]; rfl⟩
  rw [e]
  exact ControlChannel.foldl_enqueue_eq ns (s.chan p)

/-- A notice raised between two states of which the channels changed by notices alone reached its port. -/
theorem Part.reached_of_raise {s t u : Part} {n : Notice} {p : Port} (h1 : s.notified t)
    (ha : t.admits n p = true) (h2 : (t.raise n).notified u) : s.reached u p n := by
  obtain ⟨ns, e, -⟩ := h1 p
  obtain ⟨ms, e', -⟩ := h2 p
  refine ⟨ns ++ n :: ms, ?_, by simp⟩
  rw [e', Part.raise_chan, if_pos ha, e, List.foldl_append, List.foldl_cons]

/-! ### Pending fetches (R146) -/

/-- A channel's leaving of its fetches, fetch by fetch: a fetch that it does not wait on stays as it is. -/
theorem leaveFetches_none (fs : List Fetch) (k : Channel) :
    leaveFetches fs k none = fs.filterMap fun f =>
      if k ∈ f.waiters ∧ (f.waiters.filter fun j => decide (j ≠ k)) = [] ∧ f.progress = .awaitingIssue then
        none
      else some { f with waiters := f.waiters.filter fun j => decide (j ≠ k) } := by
  unfold leaveFetches
  congr 1
  funext f
  have e : (f.waiters.filter fun j => j != k) = f.waiters.filter fun j => decide (j ≠ k) := by
    congr 1; funext j; by_cases h : j = k <;> simp [h]
  dsimp only
  rw [e]
  by_cases h : k ∈ f.waiters
  · simp only [List.contains_iff_mem, h, Bool.and_eq_true, true_and]
    by_cases g : (f.waiters.filter fun j => decide (j ≠ k)) = [] ∧ f.progress = .awaitingIssue
    · simp [g.2]
    · rw [if_neg g, if_pos (by simp), if_neg (by simpa using g)]
  · have n : (f.waiters.filter fun j => decide (j ≠ k)) = f.waiters := by
      rw [List.filter_eq_self]
      intro j hj
      simp only [decide_eq_true_eq]
      rintro rfl
      exact h hj
    rw [n]
    simp [h]

/-- The leaving of all fetches but the one for `n` is a leaving of all where no fetch is for `n`. -/
theorem leaveFetches_some (fs : List Fetch) (k : Channel) {n : Pattern} (h : ∀ f ∈ fs, f.pattern ≠ n) :
    leaveFetches fs k (some n) = leaveFetches fs k none := by
  unfold leaveFetches
  refine List.filterMap_congr fun f hf => ?_
  simp [h f hf]

/-! ### Folds over ports and channels -/

/-- A fold whose every round keeps a quantity keeps it. -/
theorem foldl_keeps {σ ι α : Type} (f : σ → ι → σ) (g : σ → α) (h : ∀ s i, g (f s i) = g s)
    (l : List ι) (s : σ) : g (l.foldl f s) = g s := by
  induction l generalizing s with
  | nil => rfl
  | cons i l ih => rw [List.foldl_cons, ih, h]

/-- A fold whose round `i` changes the thing with number `i` alone, by a function of that thing and of what
every round keeps, changes each thing named in the list so, once. -/
theorem foldl_each {σ ι α κ : Type} [DecidableEq ι] (f : σ → ι → σ) (k : σ → κ) (g : σ → ι → α)
    (u : κ → ι → α → α) (hk : ∀ s i, k (f s i) = k s)
    (hg : ∀ s i j, g (f s i) j = if j = i then u (k s) i (g s i) else g s j)
    (l : List ι) (hl : l.Nodup) (s : σ) (j : ι) :
    g (l.foldl f s) j = if j ∈ l then u (k s) j (g s j) else g s j := by
  induction l generalizing s with
  | nil => simp
  | cons i l ih =>
    obtain ⟨hi, hl⟩ := List.nodup_cons.mp hl
    rw [List.foldl_cons, ih hl, hk]
    by_cases h : j = i
    · subst h; simp [hi, hg]
    · simp [h, hg]

theorem allPorts_nodup : allPorts.Nodup := by decide

theorem allChannels_nodup : allChannels.Nodup := by decide

/-! ### The frames of a store -/

/-- What a command carries, fitted to `n` bytes, has `n` bytes. -/
@[simp] theorem fitBytes_length (n seed : Nat) (bytes : List Byte) : (fitBytes n seed bytes).length = n := by
  simp [fitBytes]; omega

@[simp] theorem Store.flushed_framesFit (depth : PrimeDepth) (n : Nat) : (Store.flushed depth).framesFit n :=
  ⟨nofun, nofun⟩

/-- A write of a frame of `n` bytes keeps every frame of the store at `n` bytes. -/
theorem Store.write_framesFit {st : Store} {n : Nat} {f : Frame} (h : st.framesFit n) (hf : f.length = n) :
    (st.write f).framesFit n := by
  refine ⟨fun g hg => ?_, h.2⟩
  simp only [Store.write, List.mem_append, List.mem_singleton] at hg
  rcases hg with hg | rfl
  · split at hg
    · exact h.1 g (List.mem_of_mem_tail hg)
    · exact h.1 g hg
  · exact hf

/-- A read keeps every frame of the store at `n` bytes. -/
theorem Store.read_framesFit {st : Store} {n : Nat} (h : st.framesFit n) : st.read.framesFit n := by
  simp only [Store.read]
  split
  · split
    · rename_i f rest hq
      exact ⟨fun g hg => h.1 g (by simp [hq, hg]), fun g hg => by
        cases hg; exact h.1 f (by simp [hq])⟩
    · exact h
  · exact h

end Sys2Proof.Machine
end

