-- ==== Sys2Proof/Laws/FrameStart.lean ====
section
/-! SUPPORT. What an exchange frame start does (R7): one lemma for each part of it that says which fields it
moves, and what it makes of each record. -/

namespace Sys2Proof.Machine

open Sys2Proof

variable (s : Part)

/-! ### Slips and store events (R53 to R61) -/

theorem Part.slip_eq (p : Port) (d : Direction) (k : SlipKind) :
    s.slip p d k = { s with ports := (s.slip p d k).ports, chans := (s.slip p d k).chans } := rfl

theorem Part.slip_port (p q : Port) (d : Direction) (k : SlipKind) :
    (s.slip p d k).port q =
      if q = p then { s.port p with counters := (s.port p).counters.addSlip d k } else s.port q :=
  Part.count_port s p q fun c => c.addSlip d k

@[simp] theorem Part.slip_inLock (p q : Port) (d : Direction) (k : SlipKind) :
    (s.slip p d k).inLock q = s.inLock q := by
  by_cases h : q = p <;> simp [Part.inLock, Part.slip_port, h]

theorem Part.slip_notified (p : Port) (d : Direction) (k : SlipKind) : s.notified (s.slip p d k) :=
  Part.notified_trans (fun q => Part.count_inLock s p q _) (Part.notified_of_eq rfl)
    (Part.notified_raise _ _)

theorem Part.readInbound_eq (p : Port) :
    s.readInbound p = { s with
      inStores := s.inStores.set p (s.inStores.get p).read
      ports := (s.readInbound p).ports
      chans := (s.readInbound p).chans } := by
  unfold Part.readInbound
  dsimp only
  split <;> rfl

theorem Part.readInbound_port (p q : Port) :
    (s.readInbound p).port q =
      if q = p then
        { s.port p with
          counters := if (s.inStores.get p).readRepeats then (s.port p).counters.addSlip .inbound .repeated
            else (s.port p).counters }
      else s.port q := by
  cases h : (s.inStores.get p).readRepeats
  · by_cases e : q = p
    · subst e; simp [Part.readInbound, h, Part.port]
    · simp [Part.readInbound, h, Part.port, e]
  · simp only [Part.readInbound, h, if_true]
    exact Part.slip_port _ p q _ _

@[simp] theorem Part.readInbound_inLock (p q : Port) : (s.readInbound p).inLock q = s.inLock q := by
  by_cases h : q = p <;> simp [Part.inLock, Part.readInbound_port, h]

theorem Part.readInbound_notified (p : Port) : s.notified (s.readInbound p) := by
  unfold Part.readInbound
  dsimp only
  split
  · exact Part.notified_trans (fun _ => rfl) (Part.notified_of_eq rfl) (Part.slip_notified _ p _ _)
  · exact Part.notified_of_eq rfl

theorem Part.writeOutbound_eq (p : Port) (f : Frame) :
    s.writeOutbound p f = { s with
      outStores := s.outStores.set p ((s.outStores.get p).write f)
      ports := (s.writeOutbound p f).ports
      chans := (s.writeOutbound p f).chans } := by
  unfold Part.writeOutbound
  dsimp only
  split <;> rfl

theorem Part.writeOutbound_port (p q : Port) (f : Frame) :
    (s.writeOutbound p f).port q =
      if q = p then
        { s.port p with
          counters := if (s.outStores.get p).writeDrops then (s.port p).counters.addSlip .outbound .dropped
            else (s.port p).counters }
      else s.port q := by
  cases h : (s.outStores.get p).writeDrops
  · by_cases e : q = p
    · subst e; simp [Part.writeOutbound, h, Part.port]
    · simp [Part.writeOutbound, h, Part.port, e]
  · simp only [Part.writeOutbound, h, if_true]
    exact Part.slip_port _ p q _ _

@[simp] theorem Part.writeOutbound_inLock (p q : Port) (f : Frame) :
    (s.writeOutbound p f).inLock q = s.inLock q := by
  by_cases h : q = p <;> simp [Part.inLock, Part.writeOutbound_port, h]

theorem Part.writeOutbound_notified (p : Port) (f : Frame) : s.notified (s.writeOutbound p f) := by
  unfold Part.writeOutbound
  dsimp only
  split
  · exact Part.notified_trans (fun _ => rfl) (Part.notified_of_eq rfl) (Part.slip_notified _ p _ _)
  · exact Part.notified_of_eq rfl

theorem Part.readOutbound_eq (p : Port) :
    s.readOutbound p = { s with
      outStores := s.outStores.set p (s.outStores.get p).read
      ports := (s.readOutbound p).ports
      chans := (s.readOutbound p).chans } := by
  unfold Part.readOutbound
  dsimp only
  split <;> rfl

theorem Part.readOutbound_port (p q : Port) :
    (s.readOutbound p).port q =
      if q = p then
        { s.port p with
          counters := if (s.outStores.get p).readRepeats then (s.port p).counters.addSlip .outbound .repeated
            else (s.port p).counters }
      else s.port q := by
  cases h : (s.outStores.get p).readRepeats
  · by_cases e : q = p
    · subst e; simp [Part.readOutbound, h, Part.port]
    · simp [Part.readOutbound, h, Part.port, e]
  · simp only [Part.readOutbound, h, if_true]
    exact Part.slip_port _ p q _ _

@[simp] theorem Part.readOutbound_inLock (p q : Port) : (s.readOutbound p).inLock q = s.inLock q := by
  by_cases h : q = p <;> simp [Part.inLock, Part.readOutbound_port, h]

/-- A slip at an outbound store tells the other ports; the port's own channel is left (R61, R114). -/
theorem Part.readOutbound_chan_self (p : Port) : (s.readOutbound p).chan p = s.chan p := by
  unfold Part.readOutbound
  dsimp only
  split
  · simp [Part.slip, Part.raise_chan, Part.admits, Notice.maskBit, Notice.concerned]; rfl
  · rfl

theorem Part.readOutbound_notified (p : Port) : s.notified (s.readOutbound p) := by
  unfold Part.readOutbound
  dsimp only
  split
  · exact Part.notified_trans (fun _ => rfl) (Part.notified_of_eq rfl) (Part.slip_notified _ p _ _)
  · exact Part.notified_of_eq rfl

theorem Part.writeInbound_eq (p : Port) (f : Frame) :
    s.writeInbound p f = { s with
      inStores := s.inStores.set p ((s.inStores.get p).write f)
      ports := (s.writeInbound p f).ports
      chans := (s.writeInbound p f).chans } := by
  unfold Part.writeInbound
  dsimp only
  split <;> rfl

theorem Part.writeInbound_port (p q : Port) (f : Frame) :
    (s.writeInbound p f).port q =
      if q = p then
        { s.port p with
          counters := if (s.inStores.get p).writeDrops then (s.port p).counters.addSlip .inbound .dropped
            else (s.port p).counters }
      else s.port q := by
  cases h : (s.inStores.get p).writeDrops
  · by_cases e : q = p
    · subst e; simp [Part.writeInbound, h, Part.port]
    · simp [Part.writeInbound, h, Part.port, e]
  · simp only [Part.writeInbound, h, if_true]
    exact Part.slip_port _ p q _ _

theorem Part.writeInbound_notified (p : Port) (f : Frame) : s.notified (s.writeInbound p f) := by
  unfold Part.writeInbound
  dsimp only
  split
  · exact Part.notified_trans (fun _ => rfl) (Part.notified_of_eq rfl) (Part.slip_notified _ p _ _)
  · exact Part.notified_of_eq rfl

/-- A write leaves one frame more, or four, and a frame to read (R55). -/
theorem Store.write_queue (st : Store) (f : Frame) :
    (st.write f).queue = (if 4 ≤ st.queue.length then st.queue.tail else st.queue) ++ [f] := by
  simp [Store.write, Store.writeDrops]

/-! ### Reading the inbound stores (R8) -/

/-- A fold whose every round is an update by notices that keeps who is in lock is one. -/
theorem Part.foldl_notified {ι : Type} (f : Part → ι → Part) (hl : ∀ (s : Part) i p, (f s i).inLock p = s.inLock p)
    (hn : ∀ (s : Part) i, s.notified (f s i)) (l : List ι) : s.notified (l.foldl f s) := by
  induction l generalizing s with
  | nil => exact Part.notified_refl s
  | cons i l ih => exact Part.notified_trans (fun p => hl s i p) (hn s i) (ih (f s i))

theorem Part.readStores_notified : s.notified s.readStores :=
  Part.foldl_notified s _ (fun s i p => Part.readInbound_inLock s i p) (fun s i => Part.readInbound_notified s i) _

/-! Reading the stores moves the inbound stores, the slip counters and the notice queues alone. -/

@[simp] theorem Part.readStores_inReset : (s.readStores).inReset = s.inReset := 
  foldl_keeps Part.readInbound Part.inReset (fun s p => by rw [Part.readInbound_eq]) allPorts s
@[simp] theorem Part.readStores_outStores : (s.readStores).outStores = s.outStores := 
  foldl_keeps Part.readInbound Part.outStores (fun s p => by rw [Part.readInbound_eq]) allPorts s
@[simp] theorem Part.readStores_ref : (s.readStores).ref = s.ref := 
  foldl_keeps Part.readInbound Part.ref (fun s p => by rw [Part.readInbound_eq]) allPorts s
@[simp] theorem Part.readStores_exch : (s.readStores).exch = s.exch := 
  foldl_keeps Part.readInbound Part.exch (fun s p => by rw [Part.readInbound_eq]) allPorts s
@[simp] theorem Part.readStores_claims : (s.readStores).claims = s.claims := 
  foldl_keeps Part.readInbound Part.claims (fun s p => by rw [Part.readInbound_eq]) allPorts s
@[simp] theorem Part.readStores_lists : (s.readStores).lists = s.lists := 
  foldl_keeps Part.readInbound Part.lists (fun s p => by rw [Part.readInbound_eq]) allPorts s
@[simp] theorem Part.readStores_play : (s.readStores).play = s.play := 
  foldl_keeps Part.readInbound Part.play (fun s p => by rw [Part.readInbound_eq]) allPorts s
@[simp] theorem Part.readStores_mem : (s.readStores).mem = s.mem := 
  foldl_keeps Part.readInbound Part.mem (fun s p => by rw [Part.readInbound_eq]) allPorts s
@[simp] theorem Part.readStores_freeCount : (s.readStores).freeCount = s.freeCount := 
  foldl_keeps Part.readInbound Part.freeCount (fun s p => by rw [Part.readInbound_eq]) allPorts s

theorem Part.readStores_inStores (q : Port) : s.readStores.inStores.get q = (s.inStores.get q).read := by
  have h := foldl_each Part.readInbound (fun _ => ()) (fun s q => s.inStores.get q) (fun _ _ st => st.read)
    (fun _ _ => rfl)
    (fun s i j => by rw [Part.readInbound_eq]; exact Bank.get_set ..) allPorts allPorts_nodup s q
  simp only [mem_allPorts, if_true] at h
  exact h

/-- The port units after the stores are read: repeat slips are counted (R60). -/
theorem Part.readStores_port (q : Port) :
    s.readStores.port q = { s.port q with
      counters := if (s.inStores.get q).readRepeats then (s.port q).counters.addSlip .inbound .repeated
        else (s.port q).counters } := by
  have h := foldl_each Part.readInbound (fun _ => ())
    (fun s q => (s.port q, s.inStores.get q))
    (fun _ _ x => ({ x.1 with counters := if x.2.readRepeats then x.1.counters.addSlip .inbound .repeated
        else x.1.counters }, x.2.read))
    (fun _ _ => rfl)
    (fun s i j => by
      have e : (s.readInbound i).inStores = s.inStores.set i (s.inStores.get i).read := by
        rw [Part.readInbound_eq]
      simp only [Part.readInbound_port, e, Bank.get_set]
      split <;> rfl) allPorts allPorts_nodup s q
  simp only [mem_allPorts, if_true, Prod.mk.injEq] at h
  exact h.1

@[simp] theorem Part.readStores_inLock (q : Port) : s.readStores.inLock q = s.inLock q := by
  simp [Part.inLock, Part.readStores_port]

/-! ### Taking the playback bytes (R9) -/

theorem Part.takeByte_eq (k : Channel) :
    s.takeByte k = { s with
      play := { s.play with channels := s.play.channels.set k (s.channel k).taken }
      chans := (s.takeByte k).chans } := by
  unfold Part.takeByte
  dsimp only
  split <;> rfl

theorem Part.takeByte_channel (k j : Channel) :
    (s.takeByte k).channel j = if j = k then (s.channel k).taken else s.channel j := by
  rw [Part.takeByte_eq]
  exact Bank.get_set ..

@[simp] theorem Part.takeByte_inLock (k : Channel) (q : Port) : (s.takeByte k).inLock q = s.inLock q := by
  rw [Part.takeByte_eq]; rfl

theorem Part.takeByte_notified (k : Channel) : s.notified (s.takeByte k) := by
  unfold Part.takeByte
  dsimp only
  split
  · exact Part.notified_trans (fun _ => rfl) (Part.notified_of_eq rfl) (Part.notified_raise _ _)
  · exact Part.notified_of_eq rfl

theorem Part.takeBytes_notified : s.notified s.takeBytes :=
  Part.foldl_notified s _ (fun s k q => Part.takeByte_inLock s k q) (fun s k => Part.takeByte_notified s k) _

/-! Taking the bytes moves the channel records and the notice queues alone. -/

@[simp] theorem Part.takeBytes_inReset : (s.takeBytes).inReset = s.inReset := 
  foldl_keeps Part.takeByte Part.inReset (fun s k => by rw [Part.takeByte_eq]) allChannels s
@[simp] theorem Part.takeBytes_ports : (s.takeBytes).ports = s.ports := 
  foldl_keeps Part.takeByte Part.ports (fun s k => by rw [Part.takeByte_eq]) allChannels s
@[simp] theorem Part.takeBytes_inStores : (s.takeBytes).inStores = s.inStores := 
  foldl_keeps Part.takeByte Part.inStores (fun s k => by rw [Part.takeByte_eq]) allChannels s
@[simp] theorem Part.takeBytes_outStores : (s.takeBytes).outStores = s.outStores := 
  foldl_keeps Part.takeByte Part.outStores (fun s k => by rw [Part.takeByte_eq]) allChannels s
@[simp] theorem Part.takeBytes_ref : (s.takeBytes).ref = s.ref := 
  foldl_keeps Part.takeByte Part.ref (fun s k => by rw [Part.takeByte_eq]) allChannels s
@[simp] theorem Part.takeBytes_exch : (s.takeBytes).exch = s.exch := 
  foldl_keeps Part.takeByte Part.exch (fun s k => by rw [Part.takeByte_eq]) allChannels s
@[simp] theorem Part.takeBytes_claims : (s.takeBytes).claims = s.claims := 
  foldl_keeps Part.takeByte Part.claims (fun s k => by rw [Part.takeByte_eq]) allChannels s
@[simp] theorem Part.takeBytes_lists : (s.takeBytes).lists = s.lists := 
  foldl_keeps Part.takeByte Part.lists (fun s k => by rw [Part.takeByte_eq]) allChannels s
@[simp] theorem Part.takeBytes_mem : (s.takeBytes).mem = s.mem := 
  foldl_keeps Part.takeByte Part.mem (fun s k => by rw [Part.takeByte_eq]) allChannels s
@[simp] theorem Part.takeBytes_freeCount : (s.takeBytes).freeCount = s.freeCount := 
  foldl_keeps Part.takeByte Part.freeCount (fun s k => by rw [Part.takeByte_eq]) allChannels s
@[simp] theorem Part.takeBytes_cache : s.takeBytes.play.cache = s.play.cache := by
  unfold Part.takeBytes
  generalize allChannels = l
  exact foldl_keeps Part.takeByte (fun s => s.play.cache) (fun s k => by rw [Part.takeByte_eq]) l s
@[simp] theorem Part.takeBytes_fetches : s.takeBytes.play.fetches = s.play.fetches := by
  unfold Part.takeBytes
  generalize allChannels = l
  exact foldl_keeps Part.takeByte (fun s => s.play.fetches) (fun s k => by rw [Part.takeByte_eq]) l s

theorem Part.takeBytes_channel (k : Channel) : s.takeBytes.channel k = (s.channel k).taken := by
  have h := foldl_each Part.takeByte (fun _ => ()) Part.channel (fun _ _ c => c.taken) (fun _ _ => rfl)
    (fun s i j => Part.takeByte_channel s i j) allChannels allChannels_nodup s k
  simp only [mem_allChannels, if_true] at h
  exact h

@[simp] theorem Part.takeBytes_port (q : Port) : s.takeBytes.port q = s.port q := by
  simp [Part.port]

/-! ### The switchover (R43 to R45) -/

theorem Part.raiseAll_eq (ns : List Notice) :
    s.raiseAll ns = { s with chans := (s.raiseAll ns).chans } := by
  unfold Part.raiseAll
  induction ns generalizing s with
  | nil => rfl
  | cons n ns ih => rw [List.foldl_cons, ih]; rfl

theorem Part.raiseAll_notified (ns : List Notice) : s.notified (s.raiseAll ns) :=
  Part.foldl_notified s Part.raise (fun _ _ _ => rfl) (fun s n => Part.notified_raise s n) ns

/-- The switchover moves the map, the generation, the lists and the notice queues alone. -/
theorem Part.switchover_eq :
    s.switchover = { s with
      exch := s.exch.apply s.dueEdits
      lists := .build fun p => if (s.list p).due s.frameNumber then .cleared else s.list p
      chans := s.switchover.chans } := by
  conv_lhs => rw [Part.switchover, Part.raiseAll_eq]
  rfl

@[simp] theorem Part.switchover_inReset : (s.switchover).inReset = s.inReset := by
  rw [Part.switchover_eq]
@[simp] theorem Part.switchover_ports : (s.switchover).ports = s.ports := by
  rw [Part.switchover_eq]
@[simp] theorem Part.switchover_inStores : (s.switchover).inStores = s.inStores := by
  rw [Part.switchover_eq]
@[simp] theorem Part.switchover_outStores : (s.switchover).outStores = s.outStores := by
  rw [Part.switchover_eq]
@[simp] theorem Part.switchover_ref : (s.switchover).ref = s.ref := by
  rw [Part.switchover_eq]
@[simp] theorem Part.switchover_claims : (s.switchover).claims = s.claims := by
  rw [Part.switchover_eq]
@[simp] theorem Part.switchover_play : (s.switchover).play = s.play := by
  rw [Part.switchover_eq]
@[simp] theorem Part.switchover_mem : (s.switchover).mem = s.mem := by
  rw [Part.switchover_eq]
@[simp] theorem Part.switchover_freeCount : (s.switchover).freeCount = s.freeCount := by
  rw [Part.switchover_eq]
@[simp] theorem Part.switchover_exch : s.switchover.exch = s.exch.apply s.dueEdits := by
  rw [Part.switchover_eq]

theorem Part.switchover_notified : s.notified s.switchover :=
  Part.notified_trans (fun _ => rfl) (Part.notified_of_eq rfl) (Part.raiseAll_notified _ _)

theorem Part.switchover_list (p : Port) :
    s.switchover.list p = if (s.list p).due s.frameNumber then .cleared else s.list p := by
  rw [Part.switchover_eq]
  exact Bank.get_build ..

/-! ### Writing the assembled frames (R10, R14) -/

/-- One round of the writing: a port in lock takes its frame. -/
theorem Part.writeFrames_def (ys : Bank 4 (Option Frame)) (bs : Bank 8 Byte) :
    s.writeFrames ys bs = allPorts.foldl
      (fun d p => if s.inLock p then d.writeOutbound p (s.assembled ys bs p) else d) s := rfl

theorem Part.writeFrames_notified (ys : Bank 4 (Option Frame)) (bs : Bank 8 Byte) :
    s.notified (s.writeFrames ys bs) := by
  refine Part.foldl_notified s _ (fun d i p => ?_) (fun d i => ?_) _
  · split
    · exact Part.writeOutbound_inLock d i p _
    · rfl
  · split
    · exact Part.writeOutbound_notified d i _
    · exact Part.notified_refl d

/-! Writing the frames moves the outbound stores, the slip counters and the notice queues alone. -/

@[simp] theorem Part.writeFrames_inReset (ys : Bank 4 (Option Frame)) (bs : Bank 8 Byte) : (s.writeFrames ys bs).inReset = s.inReset := by
  refine foldl_keeps _ Part.inReset (fun d p => ?_) allPorts s
  split
  · rw [Part.writeOutbound_eq]
  · rfl
@[simp] theorem Part.writeFrames_inStores (ys : Bank 4 (Option Frame)) (bs : Bank 8 Byte) : (s.writeFrames ys bs).inStores = s.inStores := by
  refine foldl_keeps _ Part.inStores (fun d p => ?_) allPorts s
  split
  · rw [Part.writeOutbound_eq]
  · rfl
@[simp] theorem Part.writeFrames_ref (ys : Bank 4 (Option Frame)) (bs : Bank 8 Byte) : (s.writeFrames ys bs).ref = s.ref := by
  refine foldl_keeps _ Part.ref (fun d p => ?_) allPorts s
  split
  · rw [Part.writeOutbound_eq]
  · rfl
@[simp] theorem Part.writeFrames_exch (ys : Bank 4 (Option Frame)) (bs : Bank 8 Byte) : (s.writeFrames ys bs).exch = s.exch := by
  refine foldl_keeps _ Part.exch (fun d p => ?_) allPorts s
  split
  · rw [Part.writeOutbound_eq]
  · rfl
@[simp] theorem Part.writeFrames_claims (ys : Bank 4 (Option Frame)) (bs : Bank 8 Byte) : (s.writeFrames ys bs).claims = s.claims := by
  refine foldl_keeps _ Part.claims (fun d p => ?_) allPorts s
  split
  · rw [Part.writeOutbound_eq]
  · rfl
@[simp] theorem Part.writeFrames_lists (ys : Bank 4 (Option Frame)) (bs : Bank 8 Byte) : (s.writeFrames ys bs).lists = s.lists := by
  refine foldl_keeps _ Part.lists (fun d p => ?_) allPorts s
  split
  · rw [Part.writeOutbound_eq]
  · rfl
@[simp] theorem Part.writeFrames_play (ys : Bank 4 (Option Frame)) (bs : Bank 8 Byte) : (s.writeFrames ys bs).play = s.play := by
  refine foldl_keeps _ Part.play (fun d p => ?_) allPorts s
  split
  · rw [Part.writeOutbound_eq]
  · rfl
@[simp] theorem Part.writeFrames_mem (ys : Bank 4 (Option Frame)) (bs : Bank 8 Byte) : (s.writeFrames ys bs).mem = s.mem := by
  refine foldl_keeps _ Part.mem (fun d p => ?_) allPorts s
  split
  · rw [Part.writeOutbound_eq]
  · rfl
@[simp] theorem Part.writeFrames_freeCount (ys : Bank 4 (Option Frame)) (bs : Bank 8 Byte) : (s.writeFrames ys bs).freeCount = s.freeCount := by
  refine foldl_keeps _ Part.freeCount (fun d p => ?_) allPorts s
  split
  · rw [Part.writeOutbound_eq]
  · rfl

/-- The store and the port unit of each port after the frames are written. -/
theorem Part.writeFrames_port (ys : Bank 4 (Option Frame)) (bs : Bank 8 Byte) (q : Port) :
    ((s.writeFrames ys bs).port q, (s.writeFrames ys bs).outStores.get q) =
      if s.inLock q then
        ({ s.port q with
            counters := if (s.outStores.get q).writeDrops
              then (s.port q).counters.addSlip .outbound .dropped else (s.port q).counters },
          (s.outStores.get q).write (s.assembled ys bs q))
      else (s.port q, s.outStores.get q) := by
  have h := foldl_each
    (fun d p => if s.inLock p then d.writeOutbound p (s.assembled ys bs p) else d) (fun _ => ())
    (fun d q => (d.port q, d.outStores.get q))
    (fun _ p x => if s.inLock p then
        ({ x.1 with counters := if x.2.writeDrops then x.1.counters.addSlip .outbound .dropped
            else x.1.counters }, x.2.write (s.assembled ys bs p))
      else x)
    (fun _ _ => rfl)
    (fun d i j => by
      dsimp only
      by_cases hi : s.inLock i = true
      · have e : (d.writeOutbound i (s.assembled ys bs i)).outStores =
            d.outStores.set i ((d.outStores.get i).write (s.assembled ys bs i)) := by
          rw [Part.writeOutbound_eq]
        simp only [hi, if_true, Part.writeOutbound_port, e, Bank.get_set]
        by_cases hj : j = i <;> simp [hj]
      · simp only [hi]
        by_cases hj : j = i <;> simp [hj]) allPorts allPorts_nodup s q
  simp only [mem_allPorts, if_true] at h
  exact h

@[simp] theorem Part.writeFrames_inLock (ys : Bank 4 (Option Frame)) (bs : Bank 8 Byte) (q : Port) :
    (s.writeFrames ys bs).inLock q = s.inLock q := by
  have h := congrArg Prod.fst (Part.writeFrames_port s ys bs q)
  unfold Part.inLock
  rw [show (s.writeFrames ys bs).port q = _ from h]
  split <;> rfl

/-! ### The lapse timers (R28, R29) -/

theorem Part.lapsePort_eq (p : Port) :
    s.lapsePort p = { s with
      claims := s.claims.setHolders (s.claims.holding p) none
      lists := s.lists.set p .cleared
      chans := (s.lapsePort p).chans } := by
  unfold Part.lapsePort
  dsimp only
  split <;> rfl

theorem Part.lapsePort_notified (p : Port) : s.notified (s.lapsePort p) := by
  unfold Part.lapsePort
  dsimp only
  split
  · exact Part.notified_of_eq rfl
  · exact Part.notified_trans (fun _ => rfl) (Part.notified_of_eq rfl) (Part.notified_raise _ _)

/-- A timer's count moves the claim unit, the lists and the notice queues alone. -/
theorem Part.countLapse_eq (p : Port) :
    s.countLapse p = { s with
      claims := (s.countLapse p).claims
      lists := (s.countLapse p).lists
      chans := (s.countLapse p).chans } := by
  unfold Part.countLapse
  split
  · rfl
  · split
    · dsimp only
      split
      · rw [Part.lapsePort_eq]; rfl
      · rfl
    · rfl

theorem Part.countLapse_notified (p : Port) : s.notified (s.countLapse p) := by
  unfold Part.countLapse
  split
  · exact Part.notified_refl s
  · split
    · dsimp only
      split
      · exact Part.notified_trans (fun _ => rfl) (Part.notified_of_eq rfl) (Part.lapsePort_notified _ p)
      · exact Part.notified_of_eq rfl
    · exact Part.notified_refl s

@[simp] theorem Part.countLapse_inLock (p q : Port) : (s.countLapse p).inLock q = s.inLock q := by
  rw [Part.countLapse_eq]; rfl

theorem Part.countLapses_notified : s.notified s.countLapses :=
  Part.foldl_notified s _ (fun s p q => Part.countLapse_inLock s p q) (fun s p => Part.countLapse_notified s p) _

@[simp] theorem Part.countLapses_inReset : (s.countLapses).inReset = s.inReset := 
  foldl_keeps Part.countLapse Part.inReset (fun s p => by rw [Part.countLapse_eq]) allPorts s
@[simp] theorem Part.countLapses_ports : (s.countLapses).ports = s.ports := 
  foldl_keeps Part.countLapse Part.ports (fun s p => by rw [Part.countLapse_eq]) allPorts s
@[simp] theorem Part.countLapses_inStores : (s.countLapses).inStores = s.inStores := 
  foldl_keeps Part.countLapse Part.inStores (fun s p => by rw [Part.countLapse_eq]) allPorts s
@[simp] theorem Part.countLapses_outStores : (s.countLapses).outStores = s.outStores := 
  foldl_keeps Part.countLapse Part.outStores (fun s p => by rw [Part.countLapse_eq]) allPorts s
@[simp] theorem Part.countLapses_ref : (s.countLapses).ref = s.ref := 
  foldl_keeps Part.countLapse Part.ref (fun s p => by rw [Part.countLapse_eq]) allPorts s
@[simp] theorem Part.countLapses_exch : (s.countLapses).exch = s.exch := 
  foldl_keeps Part.countLapse Part.exch (fun s p => by rw [Part.countLapse_eq]) allPorts s
@[simp] theorem Part.countLapses_play : (s.countLapses).play = s.play := 
  foldl_keeps Part.countLapse Part.play (fun s p => by rw [Part.countLapse_eq]) allPorts s
@[simp] theorem Part.countLapses_mem : (s.countLapses).mem = s.mem := 
  foldl_keeps Part.countLapse Part.mem (fun s p => by rw [Part.countLapse_eq]) allPorts s
@[simp] theorem Part.countLapses_freeCount : (s.countLapses).freeCount = s.freeCount := 
  foldl_keeps Part.countLapse Part.freeCount (fun s p => by rw [Part.countLapse_eq]) allPorts s

/-! ### The lapses ahead of a switchover (R28 to R30) -/

theorem Part.lapseDue_iff (p : Port) : s.lapseDue p = true ↔ s.lapses p := by
  simp [Part.lapseDue, Part.lapses]

/-- A lapse taken ahead moves the claim unit, the lists and the notice queues alone. -/
theorem Part.lapseAhead_eq (p : Port) :
    s.lapseAhead p = { s with
      claims := (s.lapseAhead p).claims
      lists := (s.lapseAhead p).lists
      chans := (s.lapseAhead p).chans } := by
  unfold Part.lapseAhead
  split
  · rw [Part.lapsePort_eq]; rfl
  · rfl

theorem Part.lapseAhead_notified (p : Port) : s.notified (s.lapseAhead p) := by
  unfold Part.lapseAhead
  split
  · exact Part.notified_trans (fun _ => rfl) (Part.notified_of_eq rfl) (Part.lapsePort_notified _ p)
  · exact Part.notified_refl s

@[simp] theorem Part.lapseAhead_inLock (p q : Port) : (s.lapseAhead p).inLock q = s.inLock q := by
  rw [Part.lapseAhead_eq]; rfl

/-- Lapses taken ahead of a switchover move the claim unit, the lists and the notice queues alone. -/
theorem Part.lapsesAhead_eq (l : LapseFirst) :
    s.lapsesAhead l = { s with
      claims := (s.lapsesAhead l).claims
      lists := (s.lapsesAhead l).lists
      chans := (s.lapsesAhead l).chans } := by
  have h := foldl_keeps Part.lapseAhead
    (fun d : Part => (d.inReset, d.ports, d.inStores, d.outStores, d.ref, d.exch, d.play, d.mem, d.freeCount))
    (fun s p => by rw [Part.lapseAhead_eq]) (l.port :: l.also) s
  change _ = (_, _) at h
  simp only [Prod.mk.injEq] at h
  obtain ⟨h1, h2, h3, h4, h5, h6, h7, h8, h9⟩ := h
  unfold Part.lapsesAhead
  rw [← h1, ← h2, ← h3, ← h4, ← h5, ← h6, ← h7, ← h8, ← h9]

theorem Part.lapsesAhead_notified (l : LapseFirst) : s.notified (s.lapsesAhead l) :=
  Part.foldl_notified s _ (fun s p q => Part.lapseAhead_inLock s p q)
    (fun s p => Part.lapseAhead_notified s p) _

@[simp] theorem Part.lapsesAhead_inLock (l : LapseFirst) (q : Port) :
    (s.lapsesAhead l).inLock q = s.inLock q := by
  rw [Part.lapsesAhead_eq]; rfl
@[simp] theorem Part.lapsesAhead_inReset (l : LapseFirst) : (s.lapsesAhead l).inReset = s.inReset := by
  rw [Part.lapsesAhead_eq]
@[simp] theorem Part.lapsesAhead_ref (l : LapseFirst) : (s.lapsesAhead l).ref = s.ref := by
  rw [Part.lapsesAhead_eq]
@[simp] theorem Part.lapsesAhead_exch (l : LapseFirst) : (s.lapsesAhead l).exch = s.exch := by
  rw [Part.lapsesAhead_eq]

/-! ### The reference unit's share (R70 to R79) -/

/-- Selection moves the reference record and the notice queues alone. -/
theorem Part.select_eq : s.select = { s with ref := s.select.ref, chans := s.select.chans } := by
  unfold Part.select
  split
  · split
    · split <;> rfl
    all_goals rfl
  · split
    · split <;> rfl
    · unfold Part.choose
      split <;> rfl

theorem Part.setRef_raise_notified (r : RefUnit) (reason : RefReason) :
    s.notified ((s.setRef r).raiseReference reason) :=
  Part.notified_trans (fun _ => rfl) (Part.notified_of_eq rfl) (Part.notified_raise _ _)

theorem Part.select_notified : s.notified s.select := by
  unfold Part.select
  split
  · split
    · split <;> exact Part.notified_of_eq rfl
    all_goals exact Part.notified_refl s
  · split
    · split
      · exact Part.setRef_raise_notified s _ _
      · exact Part.notified_of_eq rfl
    · unfold Part.choose
      split <;> first | exact Part.setRef_raise_notified s _ _ | exact Part.notified_of_eq rfl

theorem Part.referenceShare_eq (cause : StartCause) :
    s.referenceShare cause = { s with
      ref := (s.referenceShare cause).ref, chans := (s.referenceShare cause).chans } := by
  unfold Part.referenceShare
  rw [Part.select_eq]
  rfl

@[simp] theorem Part.referenceShare_inReset (cause : StartCause) : (s.referenceShare cause).inReset = s.inReset := by
  rw [Part.referenceShare_eq]
@[simp] theorem Part.referenceShare_ports (cause : StartCause) : (s.referenceShare cause).ports = s.ports := by
  rw [Part.referenceShare_eq]
@[simp] theorem Part.referenceShare_inStores (cause : StartCause) : (s.referenceShare cause).inStores = s.inStores := by
  rw [Part.referenceShare_eq]
@[simp] theorem Part.referenceShare_outStores (cause : StartCause) : (s.referenceShare cause).outStores = s.outStores := by
  rw [Part.referenceShare_eq]
@[simp] theorem Part.referenceShare_exch (cause : StartCause) : (s.referenceShare cause).exch = s.exch := by
  rw [Part.referenceShare_eq]
@[simp] theorem Part.referenceShare_claims (cause : StartCause) : (s.referenceShare cause).claims = s.claims := by
  rw [Part.referenceShare_eq]
@[simp] theorem Part.referenceShare_lists (cause : StartCause) : (s.referenceShare cause).lists = s.lists := by
  rw [Part.referenceShare_eq]
@[simp] theorem Part.referenceShare_play (cause : StartCause) : (s.referenceShare cause).play = s.play := by
  rw [Part.referenceShare_eq]
@[simp] theorem Part.referenceShare_mem (cause : StartCause) : (s.referenceShare cause).mem = s.mem := by
  rw [Part.referenceShare_eq]
@[simp] theorem Part.referenceShare_freeCount (cause : StartCause) : (s.referenceShare cause).freeCount = s.freeCount := by
  rw [Part.referenceShare_eq]

theorem Part.referenceShare_notified (cause : StartCause) : s.notified (s.referenceShare cause) :=
  Part.notified_trans (fun _ => rfl) (Part.notified_of_eq rfl) (Part.select_notified _)

/-! ### The whole start -/

/-- The part after the switchover of an exchange frame start, before its frames are assembled. -/
def Part.switched (s : Part) : Part := (s.advanceCounter.readStores.takeBytes).switchover

theorem Part.frameStart_def (cause : StartCause) :
    s.frameStart cause =
      ((s.switched.writeFrames s.yields s.playbackBytes).countLapses).referenceShare cause := rfl

@[simp] theorem Part.switched_inLock (q : Port) : s.switched.inLock q = s.inLock q := by
  have h := Part.readStores_inLock s.advanceCounter q
  simp only [Part.inLock, Part.port] at h
  simp only [Part.inLock, Part.port, Part.switched, Part.switchover_ports, Part.takeBytes_ports]
  exact h

theorem Part.switched_notified : s.notified s.switched := by
  have h1 : s.notified s.advanceCounter.readStores :=
    Part.notified_trans (fun _ => rfl) (Part.notified_of_eq rfl) (Part.readStores_notified _)
  have l1 : ∀ q, s.advanceCounter.readStores.inLock q = s.inLock q := Part.readStores_inLock s.advanceCounter
  have h2 := Part.notified_trans l1 h1 (Part.takeBytes_notified _)
  have l2 : ∀ q, s.advanceCounter.readStores.takeBytes.inLock q = s.inLock q := fun q => by
    simp only [Part.inLock, Part.takeBytes_port]
    exact l1 q
  exact Part.notified_trans l2 h2 (Part.switchover_notified _)

/-- At an exchange frame start the channels change by notices alone. -/
theorem Part.frameStart_notified (cause : StartCause) : s.notified (s.frameStart cause) := by
  rw [Part.frameStart_def]
  have h1 := Part.notified_trans (Part.switched_inLock s) (Part.switched_notified s)
    (Part.writeFrames_notified _ s.yields s.playbackBytes)
  have l1 : ∀ q, (s.switched.writeFrames s.yields s.playbackBytes).inLock q = s.inLock q := by simp
  have h2 := Part.notified_trans l1 h1 (Part.countLapses_notified _)
  have l2 : ∀ q, (s.switched.writeFrames s.yields s.playbackBytes).countLapses.inLock q = s.inLock q := by
    intro q
    simp only [Part.inLock, Part.port, Part.countLapses_ports]
    exact l1 q
  exact Part.notified_trans l2 h2 (Part.referenceShare_notified _ cause)

/-! An exchange frame start leaves these blocks alone. -/

@[simp] theorem Part.frameStart_inReset (cause : StartCause) : (s.frameStart cause).inReset = s.inReset := by
  simp [Part.frameStart_def, Part.switched]
@[simp] theorem Part.frameStart_mem (cause : StartCause) : (s.frameStart cause).mem = s.mem := by
  simp [Part.frameStart_def, Part.switched]
@[simp] theorem Part.frameStart_freeCount (cause : StartCause) : (s.frameStart cause).freeCount = s.freeCount := by
  simp [Part.frameStart_def, Part.switched]
@[simp] theorem Part.frameStart_cache (cause : StartCause) : (s.frameStart cause).play.cache = s.play.cache := by
  simp [Part.frameStart_def, Part.switched]
@[simp] theorem Part.frameStart_fetches (cause : StartCause) : (s.frameStart cause).play.fetches = s.play.fetches := by
  simp [Part.frameStart_def, Part.switched]

/-! What it makes of the others. -/

/-- The exchange: the counter is one more, and the due lists of that frame are written (R6, R43). -/
theorem Part.frameStart_exch (cause : StartCause) :
    (s.frameStart cause).exch = s.advanceCounter.exch.apply s.advanceCounter.dueEdits := by
  have e : (s.advanceCounter.readStores.takeBytes).dueEdits = s.advanceCounter.dueEdits := by
    simp only [Part.dueEdits, Part.duePorts, Part.list, Part.frameNumber, Part.takeBytes_lists,
      Part.takeBytes_exch, Part.readStores_lists, Part.readStores_exch]
  simp only [Part.frameStart_def, Part.switched, Part.referenceShare_exch, Part.countLapses_exch,
    Part.writeFrames_exch, Part.switchover_exch, e, Part.takeBytes_exch, Part.readStores_exch]

/-- The inbound stores: each is read once (R8). -/
theorem Part.frameStart_inStores (cause : StartCause) (q : Port) :
    (s.frameStart cause).inStores.get q = (s.inStores.get q).read := by
  simp only [Part.frameStart_def, Part.switched, Part.referenceShare_inStores, Part.countLapses_inStores,
    Part.writeFrames_inStores, Part.switchover_inStores, Part.takeBytes_inStores]
  exact Part.readStores_inStores s.advanceCounter q

/-- The channels of the playback unit: a byte is taken from each (R9). -/
theorem Part.frameStart_channel (cause : StartCause) (k : Channel) :
    (s.frameStart cause).channel k = (s.channel k).taken := by
  have h := Part.takeBytes_channel s.advanceCounter.readStores k
  simp only [Part.channel, Part.readStores_play] at h
  simp only [Part.channel, Part.frameStart_def, Part.switched, Part.referenceShare_play, Part.countLapses_play,
    Part.writeFrames_play, Part.switchover_play]
  exact h

/-- The port units: slip counters move, nothing else. -/
theorem Part.frameStart_port (cause : StartCause) (q : Port) :
    (s.frameStart cause).port q = { s.port q with
      counters :=
        let c := if (s.inStores.get q).readRepeats then (s.port q).counters.addSlip .inbound .repeated
          else (s.port q).counters
        if s.inLock q && (s.outStores.get q).writeDrops then c.addSlip .outbound .dropped else c } := by
  have h := congrArg Prod.fst (Part.writeFrames_port s.switched s.yields s.playbackBytes q)
  have r := Part.readStores_port s.advanceCounter q
  have e : s.switched.port q = s.advanceCounter.readStores.port q := by
    simp [Part.port, Part.switched]
  have o : s.switched.outStores = s.outStores := by simp [Part.switched]
  have m : (s.frameStart cause).port q = (s.switched.writeFrames s.yields s.playbackBytes).port q := by
    simp [Part.port, Part.frameStart_def]
  rw [m, show (s.switched.writeFrames s.yields s.playbackBytes).port q = _ from h, e, r, o,
    Part.switched_inLock]
  simp only [Part.advanceCounter, Part.port]
  cases s.inLock q <;> cases (s.outStores.get q).writeDrops <;> simp <;> rfl

@[simp] theorem Part.frameStart_inLock (cause : StartCause) (q : Port) :
    (s.frameStart cause).inLock q = s.inLock q := by
  unfold Part.inLock
  rw [Part.frameStart_port]

/-- The outbound stores: that of a port in lock is written with its frame, assembled from the map after the
switchover (R10, R14). -/
theorem Part.frameStart_outStores (cause : StartCause) (q : Port) :
    (s.frameStart cause).outStores.get q =
      if s.inLock q then
        (s.outStores.get q).write (s.switched.assembled s.yields s.playbackBytes q)
      else s.outStores.get q := by
  have h := congrArg Prod.snd (Part.writeFrames_port s.switched s.yields s.playbackBytes q)
  have o : s.switched.outStores = s.outStores := by simp [Part.switched]
  simp only [Part.frameStart_def, Part.referenceShare_outStores, Part.countLapses_outStores]
  rw [show (s.switched.writeFrames s.yields s.playbackBytes).outStores.get q = _ from h, o,
    Part.switched_inLock]
  split <;> rfl

/-- The reference record: the share of the unit, selection by the lock states as they stand (R70 to R79). -/
theorem Part.frameStart_ref (cause : StartCause) :
    (s.frameStart cause).ref = ((s.switched.writeFrames s.yields s.playbackBytes).countLapses.setRef
      (s.ref.started cause)).select.ref := by
  have o : (s.switched.writeFrames s.yields s.playbackBytes).countLapses.ref = s.ref := by
    simp [Part.switched]
  rw [Part.frameStart_def, Part.referenceShare, o]

end Sys2Proof.Machine
end

