-- ==== Sys2Proof/Laws/Requests.lean ====
section
/-! SUPPORT. What taking a request does to the channel it came by (R109 to R111): the owner's action queues at
most notices there, and the request of a master whose channel is free is answered with one reply. -/

namespace Sys2Proof.Machine

open Sys2Proof

variable (s : Part)

/-! ### What leaves the queues of requests and replies alone -/

/-- `d` has the receiver, the intake, the tallies of overruns, the replies and the sender of `c`. -/
def ControlChannel.sameTraffic (c d : ControlChannel) : Prop :=
  d.rx = c.rx ∧ d.intake = c.intake ∧ d.overrun = c.overrun ∧ d.replies = c.replies ∧ d.sender = c.sender

theorem ControlChannel.sameTraffic_refl (c : ControlChannel) : c.sameTraffic c := ⟨rfl, rfl, rfl, rfl, rfl⟩

theorem Part.sameTraffic_of_notified {s t : Part} (h : s.notified t) (q : Port) :
    (s.chan q).sameTraffic (t.chan q) := by
  obtain ⟨ns, e, -⟩ := h q
  rw [e, ControlChannel.foldl_enqueue_eq]
  exact ⟨rfl, rfl, rfl, rfl, rfl⟩

/-! ### Updates by notices -/

theorem Part.removeEdits_eq (m : Port) (gone : Edit → Bool) (reason : CancelReason) :
    s.removeEdits m gone reason = { s with
      lists := s.lists.set m ((s.list m).without gone)
      chans := (s.removeEdits m gone reason).chans } := by
  unfold Part.removeEdits
  dsimp only
  split
  · split <;> rfl
  · rfl

theorem Part.removeEdits_notified (m : Port) (gone : Edit → Bool) (reason : CancelReason) :
    s.notified (s.removeEdits m gone reason) := by
  unfold Part.removeEdits
  dsimp only
  split
  · split
    · exact Part.notified_trans (fun _ => rfl) (Part.notified_of_eq rfl) (Part.notified_raise _ _)
    · exact Part.notified_of_eq rfl
  · exact Part.notified_of_eq rfl

theorem Part.clearCandidate_eq (reason : RefReason) :
    s.clearCandidate reason = { s with
      ref := (s.clearCandidate reason).ref, chans := (s.clearCandidate reason).chans } := by
  unfold Part.clearCandidate
  split <;> rfl

theorem Part.clearCandidate_notified (reason : RefReason) : s.notified (s.clearCandidate reason) := by
  unfold Part.clearCandidate
  split <;> first | exact Part.setRef_raise_notified s _ _ | exact Part.notified_of_eq rfl

theorem Part.loseReference_notified (reason : RefReason) : s.notified (s.loseReference reason) := by
  unfold Part.loseReference
  dsimp only
  split
  · have h := Part.setRef_raise_notified s s.ref.lost reason
    have l : ∀ p, ((s.setRef s.ref.lost).raiseReference reason).inLock p = s.inLock p := fun _ => rfl
    generalize (s.setRef s.ref.lost).raiseReference reason = t at h l ⊢
    exact Part.notified_trans l h (Part.frameStart_notified t _)
  · exact Part.setRef_raise_notified s _ _

@[simp] theorem Part.loseReference_inLock (reason : RefReason) (q : Port) :
    (s.loseReference reason).inLock q = s.inLock q := by
  unfold Part.loseReference
  dsimp only
  split
  · exact Part.frameStart_inLock _ _ q
  · rfl

theorem Part.lockChanged_notified (p : Port) (b a : LockState) : s.notified (s.lockChanged p b a) := by
  unfold Part.lockChanged
  split
  · exact Part.clearCandidate_notified s _
  · split
    · exact Part.loseReference_notified s _
    · exact Part.notified_refl s

/-- After a loss of the reference the local timer is due when it has reached the period in use (R78). -/
theorem Part.startDue_afterLoss (v : Part) (n : Notice) :
    (({ v with ref := v.ref.afterLoss } : Part).raise n).startDue .localTimer
      = decide (v.ref.held.getD 2048 ≤ v.ref.timer) := by
  change (v.ref.afterLoss.mode != .tracking && decide (v.ref.afterLoss.periodInUse ≤ v.ref.timer)) = _
  unfold RefUnit.periodInUse RefUnit.afterLoss
  cases h : v.ref.held <;> rfl

/-- What the reference unit makes of a leaving of lock (R74, R78). -/
theorem Part.lockChanged_hearsLeaving (v : Part) (p : Port) {before dest : LockState}
    (running : v.inReset = false) (hb : before.inLock = true) (hd : dest.inLock = false) :
    v.hearsLeaving p before (v.lockChanged p before dest) := by
  have hl : dest ≠ .locked := by rintro rfl; cases hd
  have loses : ¬ (v.ref.candidate = some p ∧ before = .locked) → v.ref.mode = .tracking →
      v.ref.tracked = some p → v.lockChanged p before dest = v.loseReference .referenceLost := by
    intro hc hm ht
    rw [Part.lockChanged, if_neg (fun h => hc ⟨h.1, h.2.1⟩), if_pos ⟨hm, ht, hb, by simp [hd]⟩]
  have lossIs : v.loseReference .referenceLost =
      (let w : Part := ({ v with ref := v.ref.afterLoss } : Part).raise
        (.reference (if v.ref.held.isSome then .holdover else .free) none none .referenceLost v.ref.held
          v.exch.counter)
      if w.startDue .localTimer then w.frameStart .localTimer else w) := rfl
  refine ⟨?_, ?_, ?_, ?_, ?_⟩
  · rintro ⟨hc, hk⟩ hm
    rw [Part.lockChanged, if_pos ⟨hc, hk, hl⟩, Part.clearCandidate, hm]
    rfl
  · rintro ⟨hc, hk⟩ hm
    rw [Part.lockChanged, if_pos ⟨hc, hk, hl⟩, Part.clearCandidate]
    split
    · exact absurd ‹_› hm
    all_goals rfl
  · rintro ⟨hc, hm, ht⟩ short
    rw [loses hc hm ht, lossIs]
    dsimp only
    rw [Part.startDue_afterLoss, if_neg (by simpa using short)]
  · rintro ⟨hc, hm, ht⟩ due
    rw [loses hc hm ht, lossIs]
    simp only [exec, execExchangeFrameStart, State.answer, Part.whenRunning, Part.raise_inReset,
      running, Bool.false_eq_true, if_false]
  · intro hc hn
    rw [Part.lockChanged, if_neg (fun h => hc ⟨h.1, h.2.1⟩), if_neg (fun h => hn ⟨hc, h.1, h.2.1⟩)]
theorem Part.setReferences_notified (list : List Port) (revertive : Bool) :
    s.notified (s.setReferences list revertive) := by
  have h : ∀ (r : RefUnit) (reason : RefReason),
      s.notified ((s.setRef r).loseReference reason) ∧ s.notified ((s.setRef r).clearCandidate reason) :=
    fun r reason =>
      ⟨Part.notified_trans (fun _ => rfl) (Part.notified_of_eq rfl) (Part.loseReference_notified _ _),
        Part.notified_trans (fun _ => rfl) (Part.notified_of_eq rfl) (Part.clearCandidate_notified _ _)⟩
  unfold Part.setReferences
  dsimp only
  split
  · split
    · exact (h _ _).1
    · split
      · exact (h _ _).2
      · exact Part.notified_of_eq rfl
  · split
    · exact (h _ _).2
    · exact Part.notified_of_eq rfl
  · exact Part.notified_of_eq rfl
  · exact Part.notified_of_eq rfl

/-- A halt moves the channel record and the notice queues alone. -/
theorem Part.haltWithNotice_eq (k : Channel) (r : HaltReason) :
    s.haltWithNotice k r = { s with
      play := { s.play with channels := s.play.channels.set k ((s.channel k).halt r) }
      chans := (s.haltWithNotice k r).chans } := rfl

theorem Part.haltWithNotice_notified (k : Channel) (r : HaltReason) : s.notified (s.haltWithNotice k r) :=
  Part.notified_trans (fun _ => rfl) (Part.notified_of_eq rfl) (Part.notified_raise _ _)

/-! ### The owner's action -/

theorem Part.refuse_part (status : Status) (fields : List Byte) : (s.refuse status fields).part = s := rfl

theorem Part.accept_part (fields : List Byte) : (s.accept fields).part = s := rfl

/-- An action changes the channels by notices, or it is NOTICE_MASK and changes a mask. -/
theorem act_notified (k : RequestKind) (p : Port) (fields : List Byte) (hk : k ≠ .noticeMask) :
    s.notified (act k p fields s).part := by
  have rf := Part.notified_refl s
  cases k
  case probe => exact rf
  case claim =>
    simp only [act, actClaim]
    split
    · exact rf
    · split
      · exact rf
      · exact Part.notified_of_eq rfl
  case release =>
    simp only [act, actRelease]
    split
    · exact rf
    · split
      · exact rf
      · exact Part.notified_trans (fun _ => rfl) (Part.notified_of_eq rfl) (Part.removeEdits_notified _ _ _ _)
  case stage =>
    simp only [act, actStage]
    repeat' split
    all_goals exact Part.notified_of_eq rfl
  case discard => exact Part.notified_of_eq rfl
  case apply =>
    simp only [act, actApply]
    repeat' split
    all_goals exact Part.notified_of_eq rfl
  case readRoute =>
    simp only [act, actReadRoute]
    repeat' split
    all_goals exact rf
  case readPort =>
    simp only [act, actReadPort]
    repeat' split
    all_goals exact rf
  case readReference => exact rf
  case readChannel =>
    simp only [act, actReadChannel]
    repeat' split
    all_goals exact rf
  case setReferences =>
    simp only [act, actSetReferences]
    repeat' split
    all_goals first | exact rf | exact Part.setReferences_notified s _ _
  case setProfile =>
    simp only [act, actSetProfile]
    repeat' split
    all_goals exact Part.notified_of_eq rfl
  case restart =>
    simp only [act, actRestart]
    split <;> exact Part.notified_of_eq rfl
  case play =>
    simp only [act, actPlay, Part.startPlay]
    repeat' split
    all_goals exact Part.notified_of_eq rfl
  case stop =>
    simp only [act, actStop]
    repeat' split
    all_goals exact Part.notified_of_eq rfl
  case noticeMask => exact absurd rfl hk

/-- An action leaves the receivers, the intake and reply queues and the senders alone (R111). -/
theorem act_sameTraffic (k : RequestKind) (p q : Port) (fields : List Byte) :
    (s.chan q).sameTraffic ((act k p fields s).part.chan q) := by
  by_cases hk : k = .noticeMask
  · subst hk
    simp only [act, actNoticeMask]
    split
    · split
      · exact ControlChannel.sameTraffic_refl _
      · simp only [Part.accept_part, Part.modifyChan_chan]
        split
        · next h => subst h; exact ⟨rfl, rfl, rfl, rfl, rfl⟩
        · exact ControlChannel.sameTraffic_refl _
    · exact ControlChannel.sameTraffic_refl _
  · exact Part.sameTraffic_of_notified (act_notified s k p fields hk) q

/-! ### A request of a free channel (R109, R111) -/

/-- Answering a message leaves the intake queues alone. -/
theorem Part.answerMessage_intake (p q : Port) (body : List Byte) :
    ((s.answerMessage p body).chan q).intake = (s.chan q).intake := by
  have h : ∀ (t : Part) (r : Reply), ((t.pushReply p r).chan q).intake = (t.chan q).intake := by
    intro t r
    rw [Part.pushReply_chan]
    split
    · next h => subst h; rfl
    · rfl
  unfold Part.answerMessage
  split
  · split
    · unfold Part.answerKnown
      dsimp only
      rw [h]
      split
      · exact (act_sameTraffic s _ p q _).2.1
      · rfl
    · rw [h]
  · rfl

/-- With nothing waiting, nothing is taken. -/
theorem Part.takeWaiting_nil (p : Port) (n : Nat) (h : (s.chan p).intake = []) : s.takeWaiting p n = s := by
  cases n
  · rfl
  · simp [Part.takeWaiting, h]

/-- A channel record put back leaves the part as it was. -/
theorem Part.modifyChan_id (p : Port) (f : ControlChannel → ControlChannel) (h : f (s.chan p) = s.chan p) :
    s.modifyChan p f = s := by
  have e : s.chans.modify p f = s.chans := Bank.modify_id _ _ _ h
  simp [Part.modifyChan, e]

/-- At a channel with an empty intake and a free place for a reply, a message is answered as it completes. -/
theorem Part.messageComplete_ready (p : Port) (body : List Byte) (hi : (s.chan p).intake = [])
    (hr : (s.chan p).replies.length < 4) : s.messageComplete p body = s.answerMessage p body := by
  have back : (s.modifyChan p fun c => { c with intake := c.intake ++ [body] }).modifyChan p
      (fun c => { c with intake := [] }) = s := by
    have e : (s.chans.modify p fun c => { c with intake := [] }) = s.chans :=
      Bank.modify_id _ _ _ (by rw [← hi]; rfl)
    have : (s.modifyChan p fun c => { c with intake := c.intake ++ [body] }).modifyChan p
        (fun c => { c with intake := [] }) = s.modifyChan p (fun c => { c with intake := [] }) := by
      simp [Part.modifyChan]
    rw [this]
    simp [Part.modifyChan, e]
  have e : (s.chan p).intake ++ [body] = [body] := by rw [hi]; rfl
  unfold Part.messageComplete
  rw [if_pos (by rw [hi]; decide), show intakeSize = 1 + 1 from rfl, Part.takeWaiting,
    Part.modifyChan_chan_self]
  dsimp only
  rw [e]
  dsimp only
  rw [if_pos hr, back]
  exact Part.takeWaiting_nil _ _ _ (by rw [Part.answerMessage_intake, hi])

/-- A request of a master whose channel is free: the message is answered, and nothing else happens. -/
theorem State.submit_ready (s : State) (p : Port) (body : List Byte) (h : s.part.ready p) :
    s.submit p body = .next { s with part := s.part.answerMessage p body } := by
  obtain ⟨h1, h2, h3, h4⟩ := h
  simp [State.submit, State.answer, Part.whenRunning, h1, h2, Part.messageComplete_ready _ _ _ h3 h4]

/-- The answer to a request of a kind: its owner's reply, or BAD_LENGTH (R111, R127). -/
theorem Part.answerMessage_known (p : Port) (k : RequestKind) (tag : Byte) (fields : List Byte) :
    s.answerMessage p (k.code :: tag :: fields) = s.answerKnown p k tag fields := by
  have h : requestKind k.code = some k := by cases k <;> rfl
  simp [Part.answerMessage, h]

/-- A request with a body of the right length is its owner's action and one reply. -/
theorem Part.answerKnown_fits (p : Port) (k : RequestKind) (tag : Byte) (fields : List Byte)
    (h : lengthFits k fields = true) :
    s.answerKnown p k tag fields = ((act k p fields s).part).pushReply p
      ⟨replyKind k, tag, (act k p fields s).status, (act k p fields s).fields,
        (act k p fields s).marked⟩ := by
  simp [Part.answerKnown, h]

/-- A request with a body of a wrong length is answered BAD_LENGTH and changes nothing else (R127). -/
theorem Part.answerKnown_badLength (p : Port) (k : RequestKind) (tag : Byte) (fields : List Byte)
    (h : lengthFits k fields = false) :
    s.answerKnown p k tag fields =
      s.pushReply p ⟨replyKind k, tag, .badLength, refusalFields k p s, false⟩ := by
  simp [Part.answerKnown, h, Part.refuse]

/-- A request of a ready channel with a body of the right length, its owner's answer being `a`. -/
theorem State.submit_fits (s : State) (p : Port) (k : RequestKind) (tag : Byte) (fields : List Byte)
    (h : s.part.ready p) (hl : lengthFits k fields = true) {a : Answer} (ha : act k p fields s.part = a) :
    s.submit p (k.code :: tag :: fields) = .next { s with
      part := a.part.pushReply p ⟨replyKind k, tag, a.status, a.fields, a.marked⟩ } := by
  subst ha
  rw [State.submit_ready _ _ _ h, Part.answerMessage_known, Part.answerKnown_fits _ _ _ _ _ hl]

/-- A request of a ready channel with a body of a wrong length. -/
theorem State.submit_badLength (s : State) (p : Port) (k : RequestKind) (tag : Byte) (fields : List Byte)
    (h : s.part.ready p) (hl : lengthFits k fields = false) :
    s.submit p (k.code :: tag :: fields) =
      .next (s.replying p ⟨replyKind k, tag, .badLength, refusalFields k p s.part, false⟩) := by
  rw [State.submit_ready _ _ _ h, Part.answerMessage_known, Part.answerKnown_badLength _ _ _ _ _ hl]
  rfl

/-! ### Numbers in request fields (R129) -/

theorem portOf_of_toNat {b : Byte} {q : Port} (h : b.toNat = q.val) : portOf b = some q := by
  have := q.2
  simp [portOf, h]

theorem portOf_none {b : Byte} (h : 3 < b.toNat) : portOf b = none := by
  simp only [portOf, dif_neg (by omega : ¬ b.toNat < 4)]

theorem slotOf_of_toNat {b : Byte} {i : Slot} (h : b.toNat = i.val) : slotOf b = some i := by
  have := i.2
  simp [slotOf, h]

theorem slotOf_none {b : Byte} (h : 63 < b.toNat) : slotOf b = none := by
  simp only [slotOf, dif_neg (by omega : ¬ b.toNat < 64)]

theorem channelOf_of_toNat {b : Byte} {k : Channel} (h : b.toNat = k.val) : channelOf b = some k := by
  have := k.2
  simp [channelOf, h]

theorem channelOf_none {b : Byte} (h : 7 < b.toNat) : channelOf b = none := by
  simp only [channelOf, dif_neg (by omega : ¬ b.toNat < 8)]

theorem patternOf_of_toNat {b : Byte} {n : Pattern} (h : b.toNat = n.val) : patternOf b = some n := by
  have := n.2
  simp [patternOf, h]

theorem patternOf_none {b : Byte} (h : 63 < b.toNat) : patternOf b = none := by
  simp only [patternOf, dif_neg (by omega : ¬ b.toNat < 64)]

/-- The byte of a number is the byte it was read from. -/
theorem byteOf_of_toNat {b : Byte} {n : Nat} (h : b.toNat = n) : byteOf n = b := by
  subst h
  simp [byteOf]

end Sys2Proof.Machine
end

