-- ==== Sys2Proof/Laws/Claims.lean ====
section
/-! SUPPORT. The claim table after holders are set, and what the bytes of a CLAIM or RELEASE name (R18 to R24).
-/

namespace Sys2Proof.Machine

open Sys2Proof

/-! ### Holders -/

theorem ClaimUnit.setHolder_holder (c : ClaimUnit) (o o' : ClaimObject) (h : Option Port) :
    (c.setHolder o h).holder o' = if o' = o then h else c.holder o' := by
  cases o <;> cases o' <;>
    simp [ClaimUnit.setHolder, ClaimUnit.holder, Bank.get_modify, Bank.get_set]
  rename_i p i q j
  by_cases e : q = p <;> simp [e, Bank.get_set]

theorem ClaimUnit.setHolders_holder (c : ClaimUnit) (os : List ClaimObject) (o : ClaimObject)
    (h : Option Port) : (c.setHolders os h).holder o = if o ∈ os then h else c.holder o := by
  unfold ClaimUnit.setHolders
  induction os generalizing c with
  | nil => simp
  | cons x os ih =>
    simp only [List.foldl_cons, ih, ClaimUnit.setHolder_holder, List.mem_cons]
    by_cases h1 : o ∈ os <;> by_cases h2 : o = x <;> simp [h1, h2]

@[simp] theorem ClaimUnit.setHolders_lapse (c : ClaimUnit) (os : List ClaimObject) (h : Option Port) :
    (c.setHolders os h).lapse = c.lapse :=
  foldl_keeps (fun (c : ClaimUnit) (o : ClaimObject) => c.setHolder o h) ClaimUnit.lapse
    (fun _ o => by cases o <;> rfl) os c

theorem mem_allObjects (o : ClaimObject) : o ∈ allObjects := by
  cases o <;> simp [allObjects]

theorem ClaimUnit.mem_holding (c : ClaimUnit) (p : Port) (o : ClaimObject) :
    o ∈ c.holding p ↔ c.holder o = some p := by
  simp [ClaimUnit.holding, mem_allObjects]

/-! ### The named objects -/

/-- Taking and dropping from an ascending range keeps the numbers between. -/
theorem range_drop_take (m a n : Nat) (h : a + n ≤ m) :
    ((List.range m).drop a).take n = (List.range m).filter fun i => decide (a ≤ i ∧ i < a + n) := by
  have e : List.range m = List.range' 0 a ++ (List.range' a n ++ List.range' (a + n) (m - (a + n))) := by
    have h1 := @List.range'_append 0 a (m - a) 1
    have h2 := @List.range'_append a n (m - (a + n)) 1
    rw [show a + 1 * n = a + n by omega, show n + (m - (a + n)) = m - a by omega] at h2
    rw [show 0 + 1 * a = a by omega, show a + (m - a) = m by omega] at h1
    rw [h2, h1, List.range_eq_range']
  rw [e, List.filter_append, List.filter_append]
  have z1 : (List.range' 0 a).filter (fun i => decide (a ≤ i ∧ i < a + n)) = [] := by
    rw [List.filter_eq_nil_iff]
    intro x hx
    rw [List.mem_range'_1] at hx
    simp only [decide_eq_true_eq]
    omega
  have z2 : (List.range' a n).filter (fun i => decide (a ≤ i ∧ i < a + n)) = List.range' a n := by
    rw [List.filter_eq_self]
    intro x hx
    rw [List.mem_range'_1] at hx
    simp only [decide_eq_true_eq]
    omega
  have z3 : (List.range' (a + n) (m - (a + n))).filter (fun i => decide (a ≤ i ∧ i < a + n)) = [] := by
    rw [List.filter_eq_nil_iff]
    intro x hx
    rw [List.mem_range'_1] at hx
    simp only [decide_eq_true_eq]
    omega
  rw [z1, z2, z3, List.nil_append, List.append_nil]
  have d : ∀ l : List Nat, (List.range' 0 a ++ l).drop a = l := fun l =>
    List.drop_left' (by simp)
  have k : ∀ l : List Nat, (List.range' a n ++ l).take n = List.range' a n := fun l =>
    List.take_left' (by simp)
  rw [d, k]

/-- The slots of a range that does not pass slot 63, in ascending order. -/
theorem slotRange_eq_filter (q : Port) (first count : Nat) (h : first + count ≤ 64) :
    slotRange q first count = ((List.finRange 64).filter fun i =>
      decide (first ≤ i.val ∧ i.val < first + count)).map fun i => ClaimObject.slot q i := by
  unfold slotRange
  congr 1
  have inj : Function.Injective (List.map (Fin.val : Fin 64 → Nat)) :=
    List.map_injective_iff.mpr Fin.val_injective
  apply inj
  have v : (List.finRange 64).map Fin.val = List.range 64 := by decide
  have f := List.filter_map (p := fun i : Nat => decide (first ≤ i ∧ i < first + count))
    (f := (Fin.val : Fin 64 → Nat)) (l := List.finRange 64)
  rw [v] at f
  rw [List.map_take, List.map_drop, v, range_drop_take _ _ _ h, f]
  rfl

variable (s : Part)

/-- A range of slots that passes the checks of R20 and R21 names its slots. -/
theorem Part.namedObjects_slots {q : Port} {port first count : Byte} (hq : port.toNat = q.val)
    (h1 : 1 ≤ count.toNat) (h2 : first.toNat + count.toNat ≤ (s.port q).profile.slots)
    (h3 : ¬ (first.toNat ≤ (s.port q).profile.control
      ∧ (s.port q).profile.control < first.toNat + count.toNat)) :
    s.namedObjects [0x01, port, first, count] = .ok (slotRange q first.toNat count.toNat) := by
  have h64 : (s.port q).profile.slots ≤ 64 := by
    unfold Profile.slots SlotCount.toNat
    split <;> omega
  have e : classOf 1 = some .slots := rfl
  unfold Part.namedObjects
  simp only [e, portOf_of_toNat hq]
  rw [if_neg (by omega), if_neg (by omega), if_neg h3]

theorem Part.namedObjects_channel {k : Channel} {b : Byte} (hk : b.toNat = k.val) :
    s.namedObjects [0x02, b] = .ok [.channel k] := by
  have e : classOf 2 = some .channel := rfl
  unfold Part.namedObjects
  simp only [e, channelOf_of_toNat hk]

theorem Part.namedObjects_timing : s.namedObjects [0x03] = .ok [.timing] := rfl

/-- A class that is none of the three (R20). -/
theorem Part.namedObjects_badClass {c : Byte} (rest : List Byte) (h : classOf c = none) :
    s.namedObjects (c :: rest) = .error .badValue := by
  unfold Part.namedObjects
  simp only [h]

/-- The checks of a range of slots, one after the other (R20, R21). -/
theorem Part.namedObjects_badCount (port first : Byte) {count : Byte}
    (h : count.toNat = 0 ∨ 64 < count.toNat) :
    s.namedObjects [0x01, port, first, count] = .error .badValue := by
  have e : classOf 1 = some .slots := rfl
  unfold Part.namedObjects
  simp only [e, if_pos h]

theorem Part.namedObjects_badPort {port : Byte} (first : Byte) {count : Byte} (h1 : 1 ≤ count.toNat)
    (h2 : count.toNat ≤ 64) (h : 3 < port.toNat) :
    s.namedObjects [0x01, port, first, count] = .error .badPort := by
  have e : classOf 1 = some .slots := rfl
  unfold Part.namedObjects
  simp only [e, if_neg (by omega : ¬ (count.toNat = 0 ∨ 64 < count.toNat)), portOf_none h]

theorem Part.namedObjects_badSlot {q : Port} {port first count : Byte} (hq : port.toNat = q.val)
    (h1 : 1 ≤ count.toNat) (h2 : count.toNat ≤ 64)
    (h : (s.port q).profile.slots < first.toNat + count.toNat) :
    s.namedObjects [0x01, port, first, count] = .error .badSlot := by
  have e : classOf 1 = some .slots := rfl
  unfold Part.namedObjects
  simp only [e, if_neg (by omega : ¬ (count.toNat = 0 ∨ 64 < count.toNat)), portOf_of_toNat hq]
  rw [if_pos (.inr h)]

theorem Part.namedObjects_reserved {q : Port} {port first count : Byte} (hq : port.toNat = q.val)
    (h1 : 1 ≤ count.toNat) (h2 : count.toNat ≤ 64)
    (h3 : first.toNat + count.toNat ≤ (s.port q).profile.slots)
    (h4 : first.toNat ≤ (s.port q).profile.control)
    (h5 : (s.port q).profile.control < first.toNat + count.toNat) :
    s.namedObjects [0x01, port, first, count] = .error .reservedSlot := by
  have e : classOf 1 = some .slots := rfl
  unfold Part.namedObjects
  simp only [e, if_neg (by omega : ¬ (count.toNat = 0 ∨ 64 < count.toNat)), portOf_of_toNat hq]
  rw [if_neg (by omega), if_pos ⟨h4, h5⟩]

theorem Part.namedObjects_badChannel {b : Byte} (h : 7 < b.toNat) :
    s.namedObjects [0x02, b] = .error .badChannel := by
  have e : classOf 2 = some .channel := rfl
  unfold Part.namedObjects
  simp only [e, channelOf_none h]

end Sys2Proof.Machine
end

