-- ==== Sys2Proof/Laws/Channel.lean ====
section
/-! SUPPORT. What the receiver and the sender of a control channel do (R108, R117), case by case, and the
outbound frame start (R57, R96). -/

namespace Sys2Proof.Machine

open Sys2Proof

variable (s : Part)

/-! ### The receiver (R108) -/

theorem Part.receive_sync (p : Port) (h : (s.chan p).rx.state = .hunt) :
    s.receive p syncByte = s.setReceiver p ⟨.length, some [], 0⟩ := by
  simp [Part.receive, h]

theorem Part.receive_noSync (p : Port) {b : Byte} (h : (s.chan p).rx.state = .hunt) (hb : b ≠ syncByte) :
    s.receive p b = s := by
  simp [Part.receive, h, hb]

theorem Part.receive_length (p : Port) {b : Byte} (h : (s.chan p).rx.state = .length) (h1 : 2 ≤ b.toNat)
    (h2 : b.toNat ≤ 32) : s.receive p b = s.setReceiver p ((s.chan p).rx.keep b .body) := by
  simp [Part.receive, h, h1, h2]

theorem Part.receive_body (p : Port) (b : Byte) (h : (s.chan p).rx.state = .body) :
    s.receive p b = s.setReceiver p ((s.chan p).rx.keep b (s.chan p).rx.afterBody) := by
  simp [Part.receive, h]

theorem Part.receive_check (p : Port) (h : (s.chan p).rx.state = .check) :
    s.receive p (s.chan p).rx.running =
      (s.setReceiver p (s.chan p).rx.hunting).messageComplete p (s.chan p).rx.bytes.tail := by
  simp [Part.receive, h]

/-- A control byte out of a message: the receiver's own fields and the port's, and nothing more. -/
theorem Part.controlByte_def (p : Port) (earlier : List Byte) (b : Byte) :
    s.controlByte p earlier b =
      (s.modifyPort p fun u => { u with
        received := u.received ++ earlier ++ [b]
        position := 8 * u.profile.control + 7 }).receive p b := rfl

/-! ### The sender (R117) -/

theorem Part.place_sending {p : Port} {m : Sending} (h : (s.chan p).sender = some m) :
    s.place p = s.sendNext p m := by
  simp [Part.place, h]

theorem Part.sendNext_chan (p : Port) (m : Sending) :
    (s.sendNext p m).chan p = { s.chan p with sender := m.after } := by
  unfold Part.sendNext
  dsimp only
  split <;> simp

/-- The sender going on with a message moves its channel, and the mark of the last byte of a marked reply. -/
theorem Part.sendNext_eq (p : Port) (m : Sending) :
    s.sendNext p m = { s with
      chans := s.chans.set p { s.chan p with sender := m.after }
      ports := s.ports.set p { s.port p with
        actionDue := (s.port p).actionDue || (m.marked && m.after.isNone) } } := by
  unfold Part.sendNext
  dsimp only
  cases h : m.marked && m.after.isNone
  · have e : s.ports.set p { s.port p with actionDue := (s.port p).actionDue } = s.ports :=
      Bank.set_get_self s.ports p
    simp only [Bool.or_false, e]
    rfl
  · simp only [Bool.or_true]
    rfl

/-- With an empty intake queue the start of a reply takes nothing. -/
theorem Part.place_reply {p : Port} {r : Reply} {rest : List Reply} (h : (s.chan p).sender = none)
    (hr : (s.chan p).replies = r :: rest) (hi : (s.chan p).intake = []) :
    s.place p = s.modifyChan p fun c => { c with
      replies := rest, overrun := 0, sender := some ⟨framed (r.body c.overrun), 1, r.marked⟩ } := by
  simp only [Part.place, h, hr, Part.sendReply]
  exact Part.takeWaiting_nil _ p _ (by simpa using hi)

theorem Part.place_notice {p : Port} {n : QueuedNotice} {rest : List QueuedNotice}
    (h : (s.chan p).sender = none) (hr : (s.chan p).replies = []) (hn : (s.chan p).notices = n :: rest) :
    s.place p = s.modifyChan p fun c => { c with
      notices := rest, sender := some ⟨framed n.body, 1, false⟩ } := by
  simp only [Part.place, h, hr, hn, Part.sendNotice]

theorem Part.place_idle {p : Port} (h : (s.chan p).sender = none) (hr : (s.chan p).replies = [])
    (hn : (s.chan p).notices = []) : s.place p = s := by
  simp only [Part.place, h, hr, hn]

/-! ### The level of DOUTp (R87, R90, R96) -/

@[simp] theorem byteBits_length (b : Byte) : (byteBits b).length = 8 := rfl

theorem byteBits_get (b : Byte) {j : Nat} (h : j < 8) : (byteBits b)[j]? = some (b.getMsbD j) := by
  match j, h with
  | 0, _ | 1, _ | 2, _ | 3, _ | 4, _ | 5, _ | 6, _ | 7, _ => rfl

/-- Bit j of slot i is at position 8i + j of a frame. -/
theorem frameBits_get (f : Frame) (i : Nat) {b : Byte} (hb : f[i]? = some b) {j : Nat} (h : j < 8) :
    (frameBits f)[8 * i + j]? = some (b.getMsbD j) := by
  induction f generalizing i with
  | nil => simp at hb
  | cons c f ih =>
    have e : frameBits (c :: f) = byteBits c ++ frameBits f := rfl
    rw [e]
    cases i with
    | zero =>
      obtain rfl : c = b := by simpa using hb
      rw [List.getElem?_append_left (by simp only [byteBits_length]; omega), Nat.mul_zero, Nat.zero_add]
      exact byteBits_get c h
    | succ i =>
      rw [List.getElem?_append_right (by simp only [byteBits_length]; omega)]
      have k : 8 * (i + 1) + j - (byteBits c).length = 8 * i + j := by simp only [byteBits_length]; omega
      rw [k]
      exact ih i (by simpa using hb)

@[simp] theorem Dout.level_zero_pattern (before : Bool) (fill : Byte) :
    (Dout.pattern before).level fill 0 = before := rfl

@[simp] theorem Dout.level_zero_frame (before : Bool) (f : Frame) (fill : Byte) :
    (Dout.frame before f).level fill 0 = before := rfl

@[simp] theorem Dout.level_pattern (before : Bool) (fill : Byte) (n : Nat) :
    (Dout.pattern before).level fill (n + 1) = fill.getMsbD (n % 8) := rfl

/-- After bit j of slot i DOUTp stands at that bit. -/
theorem Dout.level_frame (before : Bool) (f : Frame) (fill : Byte) (i : Nat) {b : Byte}
    (hb : f[i]? = some b) {j : Nat} (h : j < 8) :
    (Dout.frame before f).level fill (8 * i + j + 1) = b.getMsbD j := by
  simp [Dout.level, List.getD, frameBits_get f i hb h]

@[simp] theorem Dout.atEnd_held (level : Bool) : (Dout.held level).atEnd = level := rfl

/-- At a frame end DOUTp stands at the last bit of the frame. -/
theorem Dout.atEnd_frame (before : Bool) (f : Frame) (b : Byte) :
    (Dout.frame before (f ++ [b])).atEnd = b.getMsbD 7 := by
  simp [Dout.atEnd, frameBits, byteBits, List.getLastD_eq_getLast?]

/-! ### The outbound share of a frame start (R57, R92, R94, R102) -/

/-- The port of an outbound frame start before the sender's share: the frame on DOUTp and the slip counter. -/
theorem Part.outboundStart_port (p : Port) :
    ∃ t : Part, s.outboundStart p = t.place p
      ∧ t = { s with
          outStores := s.outStores.set p (s.outStores.get p).read, ports := t.ports, chans := t.chans }
      ∧ s.notified t ∧ t.chan p = s.chan p
      ∧ t.port p = { s.port p with
          dout := .frame (s.port p).dout.atEnd
            (sentFrame (s.port p).profile (s.outStores.get p).yield (s.chan p).placed)
          counters := if (s.outStores.get p).readRepeats
            then (s.port p).counters.addSlip .outbound .repeated else (s.port p).counters } := by
  refine ⟨_, rfl, ?_, ?_, ?_, ?_⟩
  · rw [Part.readOutbound_eq]
    rfl
  · exact Part.notified_trans (fun q => Part.readOutbound_inLock s p q) (Part.readOutbound_notified s p)
      (Part.notified_of_eq rfl)
  · simp [Part.readOutbound_chan_self]
  · simp [Part.readOutbound_port]

/-- A share that is owing is taken, whatever the frame end to come. -/
theorem Part.startShare_owing {p : Port} (pulse : Bool) (h : (s.port p).owing = .start) :
    s.startShare p pulse = (s.setOwing p .nothing).outboundStart p := by
  simp [Part.startShare, h]

/-- Ahead of the completion the share is taken at a frame start. -/
theorem Part.startShare_ahead {p : Port} {pulse : Bool} (h : (s.port p).owing = .nothing)
    (hs : (s.port p).startsFrame pulse = true) :
    s.startShare p pulse = (s.setOwing p .completion).outboundStart p := by
  simp [Part.startShare, h, hs]

/-- A frame end that is no frame start takes no share. -/
theorem Part.startShare_none {p : Port} {pulse : Bool} (h : (s.port p).owing ≠ .start)
    (hs : (s.port p).owing = .nothing → (s.port p).startsFrame pulse = false) :
    s.startShare p pulse = s := by
  unfold Part.startShare
  dsimp only
  split
  · exact absurd ‹_› h
  · rw [if_neg (by simp [hs ‹_›])]
  · rfl

/-! ### Leaving lock (R97, R120) -/

/-- A leaving of lock of a port with no pending action, neither tracked nor a candidate: the port, its stores,
its channel, and PORT_STATE; nothing else. -/
theorem Part.leaveLock_plain {p : Port} (dest : LockState) (dout : Dout) (cause : PortCause) (counted : Bool)
    (ha : (s.port p).action = none) (ht : s.ref.tracked ≠ some p) (hc : s.ref.candidate ≠ some p) :
    s.leaveLock p dest dout cause counted =
      (s.dropLock p dest dout counted).raisePortState p (s.port p).lock cause := by
  have a : ((s.dropLock p dest dout counted).port p).action = none := by
    simp only [Part.dropLock, Part.modifyChan_port, Part.flushStores_port, Part.modifyPort_port_self]
    exact ha
  simp only [Part.leaveLock, Part.actionEffect, a]
  unfold Part.lockChanged
  rw [if_neg, if_neg]
  · rintro ⟨-, h, -⟩
    exact ht h
  · rintro ⟨h, -⟩
    exact hc h

end Sys2Proof.Machine
end

