-- ==== Sys2Proof/Laws/Codes.lean ====
section
/-! SUPPORT. The coding of numbers and the check register, each in one plain form (R106, R125). -/

namespace Sys2Proof.Machine

open Sys2Proof

/-- R125: a two-byte field has the most significant byte first. -/
theorem be16_eq (h : Half) : be16 h = [BitVec.ofNat 8 (h.toNat / 256), BitVec.ofNat 8 h.toNat] := by
  have high : h.extractLsb' 8 8 = BitVec.ofNat 8 (h.toNat / 256) := by
    apply BitVec.eq_of_toNat_eq
    simp [BitVec.extractLsb'_toNat, Nat.shiftRight_eq_div_pow]
  have low : h.extractLsb' 0 8 = BitVec.ofNat 8 h.toNat := by
    apply BitVec.eq_of_toNat_eq
    simp [BitVec.extractLsb'_toNat]
  rw [be16, high, low]

/-- R125, of a number. -/
theorem be16Nat_eq (n : Nat) : be16Nat n = [BitVec.ofNat 8 (n / 256), BitVec.ofNat 8 n] := by
  have high : BitVec.ofNat 8 ((BitVec.ofNat 16 n).toNat / 256) = BitVec.ofNat 8 (n / 256) := by
    apply BitVec.eq_of_toNat_eq
    simp only [BitVec.toNat_ofNat]
    omega
  have low : BitVec.ofNat 8 (BitVec.ofNat 16 n).toNat = BitVec.ofNat 8 n := by
    apply BitVec.eq_of_toNat_eq
    simp only [BitVec.toNat_ofNat]
    omega
  rw [be16Nat, be16_eq, high, low]

/-- R106: one shift of the check register, by its top bit. -/
theorem checkShift_eq (v : Byte) :
    checkShift v = if v.getLsbD 7 then (v <<< 1) ^^^ 0x31 else v <<< 1 := rfl

/-- R106: one byte enters the running check by exclusive-or and eight shifts. -/
theorem checkStep_eq (v b : Byte) :
    checkStep v b = (List.range 8).foldl
      (fun x _ => if x.getLsbD 7 then (x <<< 1) ^^^ 0x31 else x <<< 1) (v ^^^ b) := rfl

end Sys2Proof.Machine
end

