-- ==== Sys2Proof/WellFormed.lean ====
section
/-! DEFINITION. Which commands can occur at all: the bounds the spec puts on what an event carries.
The meanings are total and do not rest on these checks. -/

namespace Sys2Proof

/-- The kind bytes of the sixteen requests are 01H to 10H (R123). -/
def isRequestKind (kind : Byte) : Bool := 1 ≤ kind.toNat && kind.toNat ≤ 16

/-- A body has 2 to 32 bytes (R106), so at most 30 after the kind and the tag. -/
def fieldsFit (fields : List Byte) : Bool := fields.length ≤ 30

/-- A command whose operands lie within the bounds of the spec. -/
def Instr.wellFormed : Instr → Bool
  | .resetBegin | .resetEnd _ | .exchangeFrameStart _ | .lapse _ | .qualified | .revertiveSwitch => true
  | .clockFound _ | .clockWatchExpiry _ | .confirmMissingPulse _ => true
  -- a position lies within a frame of at most 512 bits (R87)
  | .framePulse _ place _ => place.position ≤ 512
  -- a frame has at most 64 slots (R87)
  | .frameEnd _ _ rest _ => rest.length ≤ 64
  | .controlMessageReceived _ earlier _ | .controlByteArrival _ earlier _ => earlier.length ≤ 63
  | .replyStart _ | .noticeStart _ => true
  | .probe _ _ fields | .claim _ _ fields | .release _ _ fields | .stage _ _ fields
  | .discard _ _ fields | .apply _ _ fields | .readRoute _ _ fields | .readPort _ _ fields
  | .readReference _ _ fields | .readChannel _ _ fields | .setReferences _ _ fields
  | .setProfile _ _ fields | .restart _ _ fields | .play _ _ fields | .stop _ _ fields
  | .noticeMask _ _ fields => fieldsFit fields
  | .unknownKind _ kind _ fields => !isRequestKind kind && fieldsFit fields
  | .arbiterChoice | .loanReqAssertion | .loanReqRelease => true
  -- a burst reads 1 to 16 bytes (R149, R157)
  | .burstCompletion bytes => 1 ≤ bytes.length && bytes.length ≤ 16

end Sys2Proof
end

