-- ==== Sys2Proof/Tests/Slice0.lean ====
section
/-! SUPPORT. The model's own tests. First, ill-formed commands that WellFormed refuses. Then single steps, with
values from the worked examples of spec/ (each test names its section). Last, one witness for each statement
with hypotheses: a state and operands that meet them, clause by clause, at the ends of their ranges. -/

namespace Sys2Proof.Test

open Sys2Proof Sys2Proof.Machine

-- Each theorem is checked in its turn: hundreds at once ask the system for too many threads.
set_option Elab.async false

/-! ### Helpers -/

/-- The part after a command. -/
def run (c : Instr) (s : Part) : Part :=
  match exec c ⟨s, []⟩ with
  | .next t => t.part
  | .fault r => nomatch r
  | .refused _ => s

/-- The part with every port LOCKED, all else as after reset. -/
def locked : Part := { Part.reset with ports := .all { PortUnit.reset with lock := .locked, hasLocked := true } }

/-- Port `p` in a lock state. -/
def lockAt (s : Part) (p : Port) (l : LockState) : Part := s.modifyPort p fun u => { u with lock := l }

/-- An object with a holder. -/
def holding (s : Part) (o : ClaimObject) (p : Port) : Part :=
  { s with claims := s.claims.setHolder o (some p) }

/-- The staging list of port `p`. -/
def listed (s : Part) (p : Port) (l : StagingList) : Part := { s with lists := s.lists.set p l }

/-- The exchange frame counter at `n`. -/
def counted (s : Part) (n : Half) : Part := { s with exch := { s.exch with counter := n } }

/-- An edit of the map. -/
def mapped (s : Part) (p : Port) (i : Slot) (src : Source) (g : Half) : Part :=
  { s with exch := { s.exch with map := writeEntry s.exch.map ⟨p, i, src⟩ g } }

/-- The local frame timer at `n`. -/
def timed (s : Part) (n : Nat) : Part := s.setRef { s.ref with timer := n }

/-- The status and fields of the newest reply of port `p`. -/
def lastReply (s : Part) (p : Port) : Option (Status × List Byte) :=
  (s.chan p).replies.getLast?.map fun r => (r.status, r.fields)

/-! ### WellFormed refuses what cannot occur -/

theorem test_wellFormed_position : (Instr.framePulse 0 ⟨513, 0⟩ false).wellFormed = false := by decide
theorem test_wellFormed_frame :
    (Instr.frameEnd 0 true (List.replicate 65 0) .whole).wellFormed = false := by decide
theorem test_wellFormed_earlier :
    (Instr.controlByteArrival 0 (List.replicate 64 0) 0).wellFormed = false := by decide
theorem test_wellFormed_check :
    (Instr.controlMessageReceived 0 (List.replicate 64 0) 0).wellFormed = false := by decide
theorem test_wellFormed_fields : (Instr.probe 0 0 (List.replicate 31 0)).wellFormed = false := by decide
theorem test_wellFormed_unknownKind : (Instr.unknownKind 0 0x10 0 []).wellFormed = false := by decide
theorem test_wellFormed_unknownFields :
    (Instr.unknownKind 0 0x11 0 (List.replicate 31 0)).wellFormed = false := by decide
theorem test_wellFormed_burstEmpty : (Instr.burstCompletion []).wellFormed = false := by decide
theorem test_wellFormed_burstLong :
    (Instr.burstCompletion (List.replicate 17 0)).wellFormed = false := by decide
theorem test_wellFormed_good : (Instr.claim 1 9 [1, 2, 4, 4]).wellFormed = true := by decide

/-! ### Single steps -/

/-- 7.8: the check byte of DISCARD with tag 2AH. -/
theorem test_check_request : checkValue [0x02, 0x05, 0x2A] = 0xA6 := by decide +kernel
/-- 7.8: the check byte of its reply. -/
theorem test_check_reply : checkValue [0x05, 0x85, 0x2A, 0x00, 0x00, 0x03] = 0x7D := by decide +kernel

/-- 7.8: the list of port 0 with three edits. -/
def threeEdits : Part :=
  listed locked 0 ⟨[⟨1, 2, .idle⟩, ⟨1, 3, .idle⟩, ⟨1, 4, .constant 0x40⟩], none⟩

/-- 7.8: DISCARD empties it and its reply carries 03H. -/
theorem test_discard : lastReply (run (.discard 0 0x2A []) threeEdits) 0 = some (.ok, [3]) := by
  decide +kernel
/-- 7.8: the check byte at the receiver in CHECK completes the request. -/
theorem test_controlMessageReceived :
    lastReply (run (.controlMessageReceived 0 [] 0xA6)
      (threeEdits.setReceiver 0 ⟨.check, some [0x02, 0x05, 0x2A], 0xA6⟩)) 0 = some (.ok, [3]) := by
  decide +kernel
/-- 7.8: the length byte 02H puts the receiver into BODY. -/
theorem test_controlByteArrival :
    ((run (.controlByteArrival 0 [] 0x02) (locked.setReceiver 0 ⟨.length, some [], 0⟩)).chan 0).rx.state
      = .body := by decide +kernel
/-- 7.8: the eight bytes of the reply, the sync byte placed. -/
theorem test_replyStart :
    ((run (.replyStart 0) (run (.discard 0 0x2A []) threeEdits)).chan 0).sender
      = some ⟨[0xD2, 0x05, 0x85, 0x2A, 0x00, 0x00, 0x03, 0x7D], 1, false⟩ := by decide +kernel

/-- 2.8: the holders of port 2's slots. -/
def overlapping : Part := holding (holding (holding locked (.slot 2 4) 0) (.slot 2 5) 0) (.slot 2 12) 3

/-- 2.8: port 1 names slots 4 to 7. -/
theorem test_claim_conflict :
    lastReply (run (.claim 1 9 [1, 2, 4, 4]) overlapping) 1 = some (.conflict, [0, 1, 2, 4, 0]) := by
  decide +kernel
/-- 2.8: port 3 names slots 10 to 15, of which it holds one. -/
theorem test_claim_granted :
    lastReply (run (.claim 3 9 [1, 2, 10, 6]) overlapping) 3 = some (.ok, [5, 0, 0, 0, 0xFF]) := by
  decide +kernel

/-- 2.9: port 0's holding and its list, armed for frame 0500H. -/
def underArmed : Part :=
  listed (holding (holding (holding (holding (counted locked 0x04F0) (.slot 1 2) 0) (.slot 1 3) 0)
    (.slot 3 7) 0) (.channel 4) 0) 0 ⟨[⟨1, 2, .constant 0x40⟩, ⟨3, 7, .inbound 0 9⟩], some (.frame 0x0500)⟩

/-- 2.9: two slots released, one edit removed, the list still armed. -/
theorem test_release :
    (lastReply (run (.release 0 1 [1, 1, 2, 2]) underArmed) 0,
      (run (.release 0 1 [1, 1, 2, 2]) underArmed).list 0)
      = (some (.ok, [2, 1, 0, 0, 0, 0xFF]), ⟨[⟨3, 7, .inbound 0 9⟩], some (.frame 0x0500)⟩) := by
  decide +kernel
/-- 2.9: RELEASE CHANNEL 5 of a master that holds channel 4. -/
theorem test_release_notHolder :
    lastReply (run (.release 0 1 [2, 5]) underArmed) 0 = some (.notHolder, [0, 0, 2, 5, 0, 0xFF]) := by
  decide +kernel

/-- 2.10: port 2's eight objects, its list and its timer at 2047. -/
def away : Part :=
  ({ lockAt (lockAt locked 2 .seek) 3 .seek with
    claims := (Part.reset.claims.setHolders
      [.slot 0 1, .slot 0 2, .slot 0 3, .slot 0 4, .slot 0 5, .slot 0 6, .channel 3, .timing]
      (some 2)) } : Part).setLapseTimer 2 2047

/-- 2.10: the start that brings the counter to 2800H: CLAIMS_FREED, former holder 2, count 8, for ports 0 and 1
and not for port 3; timing is free. -/
theorem test_lapse :
    (let t := run (.lapse ⟨2, []⟩) (counted (timed away 2048) 0x27FF)
    (t.chan 1).notices = [⟨.claimsFreed 2 8, 0⟩] ∧ (t.chan 3).notices = []
      ∧ t.claims.timing = none ∧ t.lapseTimer 2 = 2048 ∧ t.exch.counter = 0x2800) := by decide +kernel

/-- R30: port 2's list is due at the start of its lapse. With the lapse first no edit reaches the map; with the
switchover first it does. -/
theorem test_lapse_order :
    (let s := listed (timed away 2048) 2 ⟨[⟨0, 1, .constant 0x40⟩], some .next⟩
    (run (.lapse ⟨2, []⟩) s).exch.generation = 0 ∧ ((run (.lapse ⟨2, []⟩) s).entry 0 1).source = .idle
      ∧ ((run (.exchangeFrameStart .localTimer) s).entry 0 1).source = .constant 0x40) := by decide +kernel

/-- R105: port 3 in CONFIRM after an earlier lock reads CONFIRM. -/
theorem test_readPort :
    (lastReply (run (.readPort 0 7 [3]) (lockAt locked 3 (.confirm 1))) 0).map (fun r => r.2[8]?)
      = some (some 2) := by decide +kernel
/-- R134: a port in SEEK that has never locked reads DARK. -/
theorem test_readPort_neverLocked :
    ({ PortUnit.reset with lock := .seek } : PortUnit).shownLock = .dark := by decide

/-- 6.10: port 0's entry names slot 45 of port 3, which asks for 32 slots. -/
theorem test_setProfile_dependent :
    lastReply (run (.setProfile 3 1 [0x20, 1, 0xFF, 2])
      (mapped (locked.modifyPort 3 fun u => { u with profile := ⟨.s64, .first, 0xFF, .two⟩ }) 0 5
        (.inbound 3 45) 1)) 3 = some (.dependent, []) := by decide +kernel
/-- 6.10: RESTART while a change is pending. -/
theorem test_restart_armed :
    lastReply (run (.restart 3 1 []) (locked.modifyPort 3 fun u => { u with action := some .restart })) 3
      = some (.armed, []) := by decide +kernel

/-- 6.9: the second pulse at position 256 locks port 2. -/
theorem test_framePulse_locks :
    ((run (.framePulse 2 ⟨256, 256⟩ false) (lockAt locked 2 (.confirm 1))).port 2).lock = .locked := by
  decide +kernel
/-- 6.9: a pulse at position 134 begins CONFIRM anew. -/
theorem test_framePulse_restarts :
    ((run (.framePulse 2 ⟨134, 0⟩ false) (lockAt locked 2 (.confirm 1))).port 2).lock = .confirm 0 := by
  decide +kernel
/-- 6.9: the fourth bad frame, with a pulse at 100, is a lock loss. -/
theorem test_frameEnd_fourthBad :
    (fun u : PortUnit => (u.lock, u.counters.badFrames, u.counters.lockLosses))
      ((run (.frameEnd 2 false [] .whole) (lockAt locked 2 (.coast 3))).port 2) = (.seek, 1, 1) := by
  decide +kernel
/-- 6.9: an end without a pulse in LOCKED begins COAST(1). -/
theorem test_frameEnd_coast :
    ((run (.frameEnd 2 false (List.replicate 32 7) .completion) locked).port 2).lock = .coast 1 := by
  decide +kernel

/-- 5.9: TRACKING port 1 with the list (1, 0, 2), the held period 2049, at frame 3000H. -/
def tracking : Part :=
  (counted locked 0x3000).setRef { RefUnit.reset with
    mode := .tracking, tracked := some 1, held := some 2049, list := [1, 0, 2], revertive := true
    timer := 4751, lastStart := .frameStart 1, track := true }

/-- 5.9: the clock stops at 4751 periods: the start that reaches 3001H is taken at once and chooses port 0. -/
theorem test_clockWatchExpiry :
    (fun s : Part => (s.exch.counter, s.ref.mode, s.ref.candidate, s.ref.track))
      (run (.clockWatchExpiry ⟨1, 7⟩) tracking) = (0x3001, .qualify, some 0, false) := by decide +kernel
/-- 6.3: a port with the fill byte FFH that loses its clock in SEEK holds DOUT high. -/
theorem test_clockWatchExpiry_level :
    ((run (.clockWatchExpiry ⟨2, 5⟩) (run (.clockFound 2) Part.reset)).port 2).dout = .held true := by
  decide +kernel
/-- 5.9: the 64th count switches to port 0. -/
theorem test_qualified :
    (fun s : Part => (s.ref.mode, s.ref.tracked, s.ref.track))
      (run .qualified ((lockAt locked 1 .dark).setRef { RefUnit.reset with
        mode := .qualify, candidate := some 0, count := 63, held := some 2049, list := [1, 0, 2]
        timer := 2049 })) = (.tracking, some 0, true) := by decide +kernel

/-- 1.7: the entries of port 0, with store 1 at its empty edge and stores 2 and 3 not primed. -/
def assembly : Part :=
  timed ({ mapped (mapped (mapped (locked.modifyPort 2 fun u => { u with profile := ⟨.s32, .first, 0xD5, .two⟩ })
      0 1 (.inbound 1 5) 3) 0 2 (.inbound 2 3) 9) 0 4 (.constant 0x55) 5 with
    inStores := Part.reset.inStores.set 1 ⟨[], true, some (List.replicate 64 0xC1), .two⟩ } : Part) 2048

/-- 1.7: C1H from the repeated frame, port 2's fill D5H, and the constant. -/
theorem test_exchangeFrameStart_assembly :
    ((run (.exchangeFrameStart .localTimer) assembly).outStores.get 0).queue.map (·.take 5)
      = [[0xFF, 0xC1, 0xD5, 0xFF, 0x55]] := by decide +kernel
/-- 4.8: a read of the empty, primed store 1 is a repeat slip. -/
theorem test_exchangeFrameStart_repeat :
    ((run (.exchangeFrameStart .localTimer) assembly).port 1).counters.inRepeats = 1 := by decide +kernel

/-- 9.8: pattern 5 on channel 3, PRIMING. -/
def loopPattern : Part :=
  { locked.setChannel 3 { ChannelRecord.reset with
      state := .priming, pattern := some 5, desc := some ⟨.loop, 0x7F, 0x0012F8, 0x28, 8⟩, rest := 0x7F } with
    mem := { MemPort.reset with size := .mib4 } }

/-- 9.8: burst A reads 8 bytes at 0012F8H. -/
theorem test_arbiterChoice_page :
    (run .arbiterChoice loopPattern).mem.burst = some ⟨.refill 3 0, 0x0012F8, 8⟩ := by decide +kernel
/-- 9.9: the fetch of pattern 12 reads 16 bytes at 0000C0H. -/
theorem test_arbiterChoice_fetch :
    (run .arbiterChoice (loopPattern.setFetches [⟨12, [0, 1], .awaitingIssue⟩])).mem.burst
      = some ⟨.descriptor 12, 0x0000C0, 16⟩ := by decide +kernel
/-- 9.8: burst A delivered. -/
theorem test_burstCompletion :
    ((run (.burstCompletion [0, 1, 2, 3, 4, 5, 6, 7]) (run .arbiterChoice loopPattern)).channel 3).queue
      = [0, 1, 2, 3, 4, 5, 6, 7] := by decide +kernel
/-- 10.8: the return halts the channel, and MEMORY (RETURNED, 1) follows. -/
theorem test_loanReqRelease :
    ((run .loanReqRelease (run .loanReqAssertion loopPattern)).chan 0).notices.map QueuedNotice.notice
      = [.memory .loaned 0 0, .memory .returned 1 0] := by decide +kernel

/-- 8.7: APPLY AT 2A40H taken at 2A21H, 31 ahead. -/
theorem test_apply :
    lastReply (run (.apply 1 1 [1, 0x2A, 0x40])
      (listed (counted locked 0x2A21) 1 ⟨[⟨1, 12, .inbound 3 7⟩, ⟨1, 13, .idle⟩], none⟩)) 1
      = some (.ok, [0x2A, 0x40, 2]) := by decide +kernel
/-- 8.7: READ_ROUTE (1, 12). -/
theorem test_readRoute :
    lastReply (run (.readRoute 1 2 [1, 12])
      (holding (mapped locked 1 12 (.inbound 3 7) 0x45) (.slot 1 12) 1)) 1
      = some (.ok, [1, 12, 2, 3, 7, 0x00, 0x45, 1]) := by decide +kernel
/-- 8.7: NOTICE_MASK 1FH. -/
theorem test_noticeMask :
    lastReply (run (.noticeMask 1 3 [0x1F]) locked) 1 = some (.ok, [0x1F]) := by decide +kernel
/-- 9.9: PLAY (0, 12) misses: LOADING under epoch 7, the burst of 16 bytes still in flight. -/
theorem test_play_miss :
    (fun c : ChannelRecord => (c.state, c.epoch, c.inFlight))
      ((run (.play 0 1 [0, 12]) (holding (loopPattern.setChannel 0 { ChannelRecord.reset with
        state := .playing, pattern := some 2, epoch := 6, inFlight := 16 }) (.channel 0) 0)).channel 0)
      = (.loading, 7, 16) := by decide +kernel
/-- 9.9: STOP (1) before the fetch is issued leaves no fetch for pattern 7. -/
theorem test_stop :
    (fun s : Part => ((s.channel 1).state, (s.channel 1).epoch, s.play.fetches))
      (run (.stop 2 1 [1]) (holding ((loopPattern.setChannel 1 { ChannelRecord.reset with
        state := .loading, pattern := some 7, epoch := 2 }).setFetches [⟨7, [1], .awaitingIssue⟩])
          (.channel 1) 2)) = (.halted .stopped, 3, []) := by decide +kernel


/-! ### Witnesses: time, reset and the exchange frame start -/

/-- A part in device reset. -/
def inReset : Part := run .resetBegin locked

/-- A part TRACKING port 1, its timer at `n`, a realignment in progress or not. -/
def trackingAt (n : Nat) (realigning : Bool) : Part :=
  locked.setRef { tracking.ref with timer := n, realigning := realigning }

/-- The empty queue, and the three cases: the arbiter's choice, a due start, and neither. -/
theorem witness_IdleStepLetsTimePass :
    (⟨locked, []⟩ : State).pending = [] ∧ inReset.inReset = true ∧ locked.inReset = false
      ∧ loopPattern.inReset = false ∧ loopPattern.arbiterStands = true
      ∧ (timed locked 2048).arbiterStands = false ∧ (timed locked 2048).startDue .localTimer = true
      ∧ (timed locked 2047).arbiterStands = false
      ∧ (timed locked 2047).startDue .localTimer = false := by decide +kernel

/-- Each mode, with a held period at either end of its range and without one; a realignment at 1023 and
1024 periods. -/
theorem witness_ModeDecidesWhatEndsTheFrame :
    (timed locked 2048).ref.mode = .free
      ∧ (∃ r : RefUnit, r.mode = .qualify ∧ r.held = none ∧ r.timer = 2047)
      ∧ (∃ r : RefUnit, r.mode = .qualify ∧ r.held = some 2028 ∧ r.timer = 2027)
      ∧ (∃ r : RefUnit, r.mode = .holdover ∧ r.held = some 2068 ∧ r.timer = 2068)
      ∧ (trackingAt 1023 true).ref.mode = .tracking
      ∧ (trackingAt 1023 true).startDue (.frameStart 1) = false
      ∧ (trackingAt 1024 true).startDue (.frameStart 1) = true
      ∧ (timed locked 2048).ref.mode ≠ .tracking := by
  refine ⟨by decide +kernel,
    ⟨{ RefUnit.reset with mode := .qualify, timer := 2047 }, by decide⟩,
    ⟨{ RefUnit.reset with mode := .qualify, held := some 2028, timer := 2027 }, by decide⟩,
    ⟨{ RefUnit.reset with mode := .holdover, held := some 2068, timer := 2068 }, by decide⟩, ?_⟩
  decide +kernel

theorem witness_ResetBeginResetsEveryBlock : tracking.inReset = false := by decide +kernel

/-- A part in device reset, with RS2 of the straps low and high. -/
theorem witness_ResetEndSamplesTheStraps :
    inReset.inReset = true ∧ (∀ p : Port, (inReset.port p).lock = .dark)
      ∧ inReset.mem.state = .idle ∧ inReset.mem.loanGnt = false
      ∧ (⟨true, false, false, true, false, true, true, true, true⟩ : Straps).rs2 = false
      ∧ (⟨true, false, false, true, true, true, true, false, false⟩ : Straps).rs2 = true := by
  decide +kernel

/-- A request, and both changes of LOAN_REQ. -/
theorem witness_NothingIsTakenInReset :
    inReset.inReset = true ∧ (∀ x, Instr.probe 0 0 [] ≠ .resetEnd x)
      ∧ Instr.probe 0 0 [] ≠ .loanReqAssertion ∧ Instr.probe 0 0 [] ≠ .loanReqRelease
      ∧ (∀ x, Instr.loanReqAssertion ≠ .resetEnd x) ∧ ∀ x, Instr.loanReqRelease ≠ .resetEnd x :=
  ⟨by decide +kernel, nofun, nofun, nofun, nofun, nofun⟩

theorem witness_FrameStartAdvancesTheCounter :
    (timed locked 2047).inReset = false ∧ (timed locked 2047).startDue .localTimer = false
      ∧ (timed locked 2048).inReset = false ∧ (timed locked 2048).startDue .localTimer = true := by
  decide +kernel

/-- The counter at FFFFH and a start due: port 0's list waits for NEXT, port 1's for frame 0000H, port 2's for
0001H; port 3 is out of lock, one start short of its lapse, with a holding and a list. -/
def switching : Part :=
  listed (listed (listed (listed
    (({ holding (lockAt (counted (timed locked 2048) 0xFFFF) 3 .seek) (.slot 0 9) 3 with
      play := { PlaybackUnit.reset with channels := .all { ChannelRecord.reset with
        state := .playing, pattern := some 1, desc := some ⟨.once, 0x10, 0, 4, 0⟩, position := 3
        queue := [0x77] } } } : Part).setLapseTimer 3 2047)
    0 ⟨[⟨1, 2, .playback 7⟩], some .next⟩) 1 ⟨[⟨1, 31, .inbound 0 9⟩], some (.frame 0)⟩)
    2 ⟨[⟨1, 3, .idle⟩], some (.frame 1)⟩) 3 ⟨[⟨0, 9, .idle⟩], none⟩

theorem witness_SwitchoverWritesTheDueLists :
    switching.inReset = false ∧ switching.startDue .localTimer = true
      ∧ (∀ (m n : Port) (e f : Edit), e ∈ (switching.list m).edits → f ∈ (switching.list n).edits →
          e.port = f.port → e.slot = f.slot → e = f)
      ∧ switching.listDue 0 (switching.exch.counter + 1) ∧ (switching.list 0).edits ≠ []
      ∧ switching.inLock 0 = true
      ∧ switching.listDue 1 (switching.exch.counter + 1)
      ∧ ¬ switching.listDue 2 (switching.exch.counter + 1) ∧ ¬ switching.lapses 2
      ∧ switching.lapses 3
      ∧ (∀ m, (timed locked 2048).listDue m ((timed locked 2048).exch.counter + 1) →
          ((timed locked 2048).list m).edits = []) := by
  refine ⟨by decide +kernel, by decide +kernel, ?_, by decide +kernel⟩
  have h : ∀ m n : Port, ∀ e ∈ (switching.list m).edits, ∀ f ∈ (switching.list n).edits,
      e.port = f.port → e.slot = f.slot → e = f := by decide +kernel
  exact fun m n e f he hf => h m n e he f hf

/-- A port in lock and one out of lock, and the last slot of 32. -/
theorem witness_FramesAreAssembledFromTheNewMap :
    switching.inReset = false ∧ switching.startDue .localTimer = true
      ∧ switching.inLock 0 = true ∧ (31 : Slot).val < (switching.port 0).profile.slots
      ∧ switching.inLock 3 = false := by decide +kernel

/-- A store not primed, one primed and empty, one with a frame, a full outbound store; and port 2, which a SLIP
of port 1 reaches when bit 1 of its mask is set. -/
theorem witness_InboundStoresAreReadOnce :
    assembly.inReset = false ∧ assembly.startDue .localTimer = true
      ∧ (assembly.inStores.get 0).primed = false
      ∧ (assembly.inStores.get 1).primed = true ∧ (assembly.inStores.get 1).queue = []
      ∧ (let st : Store := ⟨[List.replicate 32 1, List.replicate 32 2], true, none, .two⟩
        let full : Store := ⟨List.replicate 4 (List.replicate 32 1), true, none, .two⟩
        let s : Part := { assembly with
          inStores := assembly.inStores.set 2 st, outStores := assembly.outStores.set 1 full
          chans := assembly.chans.set 2 { ControlChannel.reset with mask := 0x02 } }
        s.inReset = false ∧ s.startDue .localTimer = true ∧ (s.inStores.get 2).primed = true
          ∧ (s.inStores.get 2).queue = [List.replicate 32 1, List.replicate 32 2]
          ∧ s.inLock 2 = true ∧ (s.chan 2).mask.getLsbD 1 = true
          ∧ (s.inStores.get 1).primed = true ∧ (s.inStores.get 1).queue = []
          ∧ s.inLock 1 = true ∧ (s.outStores.get 1).queue.length ≥ 4) := by
  decide +kernel

/-- Channel 0 as given, in a part with a start due that port 1 holds the channel of. -/
def playingAt (c : ChannelRecord) : Part := holding ((timed locked 2048).setChannel 0 c) (.channel 0) 1

/-- A channel IDLE; PLAYING with an empty queue; at a byte that is not the last; at the last of a LOOP and of
a ONCE pattern. -/
theorem witness_PlaybackBytesAreTaken :
    (let due (s : Part) := s.inReset = false ∧ s.startDue .localTimer = true
    let c (position : Nat) (mode : PatternMode) (queue : List Byte) : ChannelRecord :=
      { ChannelRecord.reset with
        state := .playing, pattern := some 1, desc := some ⟨mode, 0x10, 0, 4, 1⟩
        position := position, queue := queue }
    (due (playingAt .reset) ∧ ((playingAt .reset).channel 0).state ≠ .playing)
      ∧ (due (playingAt (c 2 .once [])) ∧ ((playingAt (c 2 .once [])).channel 0).queue = []
        ∧ ((playingAt (c 2 .once [])).channel 0).state = .playing)
      ∧ (due (playingAt (c 2 .once [5, 6])) ∧ (playingAt (c 2 .once [5, 6])).channel 0 = c 2 .once [5, 6]
        ∧ 2 + 1 ≠ (4 : Addr).toNat)
      ∧ (due (playingAt (c 3 .loop [6])) ∧ (playingAt (c 3 .loop [6])).channel 0 = c 3 .loop [6])
      ∧ (due (playingAt (c 3 .once [6])) ∧ (playingAt (c 3 .once [6])).channel 0 = c 3 .once [6]
        ∧ 3 + 1 = (4 : Addr).toNat ∧ (playingAt (c 3 .once [6])).claims.holder (.channel 0) = some 1
        ∧ (playingAt (c 3 .once [6])).inLock 1 = true)) := by decide +kernel

theorem witness_LapseTimersCountFrameStarts :
    switching.inReset = false ∧ switching.startDue .localTimer = true
      ∧ switching.lapses 3 ∧ switching.claims.holder (.slot 0 9) = some 3
      ∧ switching.inLock 0 = true ∧ (switching.chan 0).mask.getLsbD 3 = true
      ∧ ¬ (switching.setLapseTimer 3 2046).lapses 3 ∧ ¬ (switching.setLapseTimer 3 2048).lapses 3
      ∧ (∀ p, (switching.setLapseTimer 3 2046).claims.holder (.slot 0 9) = some p →
          ¬ (switching.setLapseTimer 3 2046).lapses p) := by decide +kernel

/-! ### Witnesses: the reference unit and the lapse -/

/-- QUALIFY with a candidate and a count, the timer at the held period. -/
def qualifying (candidate : Port) (count : Nat) : Part :=
  locked.setRef { RefUnit.reset with
    mode := .qualify, candidate := some candidate, count := count, held := some 2068
    list := [3, 0], timer := 2068 }

/-- Nothing listed; FREE with a listed port LOCKED; another port found first; the counts 62 and 63. -/
theorem witness_SelectionPicksTheFirstLockedPort :
    (let ok (s : Part) := s.inReset = false ∧ s.ref.mode ≠ .tracking ∧ s.startDue .localTimer = true
    let found (s : Part) := s.ref.list.find? fun p => decide ((s.port p).lock = .locked)
    let free : Part := (timed locked 2048).setRef { (timed locked 2048).ref with list := [3, 0] }
    (ok (timed locked 2048) ∧ found (timed locked 2048) = none ∧ (timed locked 2048).ref.candidate = none)
      ∧ (ok free ∧ found free = some 3 ∧ free.ref.candidate ≠ some 3 ∧ free.ref.mode ≠ .qualify
        ∧ free.inLock 0 = true ∧ (free.chan 0).mask.getLsbD 2 = true)
      ∧ (ok (qualifying 0 9) ∧ found (qualifying 0 9) = some 3 ∧ (qualifying 0 9).ref.candidate ≠ some 3)
      ∧ (ok (qualifying 3 62) ∧ found (qualifying 3 62) = some 3
        ∧ (qualifying 3 62).ref.candidate = some 3 ∧ (qualifying 3 62).ref.count + 1 ≠ 64)
      ∧ (ok (qualifying 3 63) ∧ found (qualifying 3 63) = some 3
        ∧ (qualifying 3 63).ref.candidate = some 3 ∧ (qualifying 3 63).ref.count + 1 = 64
        ∧ (qualifying 3 63).inLock 2 = true ∧ ((qualifying 3 63).chan 2).mask.getLsbD 2 = true)) := by
  decide +kernel

/-- TRACKING port 0 with the list (1, 3, 0), a candidate, a count and the revertive flag. -/
def reverting (candidate : Option Port) (count : Nat) (flag : Bool) : Part :=
  locked.setRef { tracking.ref with
    tracked := some 0, candidate := candidate, count := count, list := [1, 3, 0], revertive := flag
    timer := 2048, lastStart := .frameStart 0 }

/-- The flag OFF; nothing found; a first choice; the counts 62 and 63. -/
theorem witness_RevertiveSelectionInTracking :
    (let ok (s : Part) (q : Port) := s.inReset = false ∧ s.ref.mode = .tracking ∧ s.ref.tracked = some q
      ∧ s.startDue (.frameStart q) = true
    let found (s : Part) (q : Port) := (s.ref.list.takeWhile fun p => decide (p ≠ q)).find? fun p =>
      decide ((s.port p).lock = .locked)
    (ok (reverting none 0 false) 0 ∧ (reverting none 0 false).ref.revertive = false)
      ∧ (ok (trackingAt 2048 false) 1 ∧ found (trackingAt 2048 false) 1 = none
        ∧ (trackingAt 2048 false).ref.revertive = true)
      ∧ (ok (reverting none 0 true) 0 ∧ found (reverting none 0 true) 0 = some 1
        ∧ (reverting none 0 true).ref.revertive = true
        ∧ (reverting none 0 true).ref.candidate ≠ some 1)
      ∧ (ok (reverting (some 1) 62 true) 0 ∧ found (reverting (some 1) 62 true) 0 = some 1
        ∧ (reverting (some 1) 62 true).ref.candidate = some 1
        ∧ (reverting (some 1) 62 true).ref.count + 1 ≠ 64)
      ∧ (ok (reverting (some 1) 63 true) 0 ∧ found (reverting (some 1) 63 true) 0 = some 1
        ∧ (reverting (some 1) 63 true).ref.candidate = some 1
        ∧ (reverting (some 1) 63 true).ref.count + 1 = 64
        ∧ (reverting (some 1) 63 true).inLock 2 = true
        ∧ ((reverting (some 1) 63 true).chan 2).mask.getLsbD 2 = true)) := by decide +kernel

/-- A realignment at 1023 and 1024 periods; measures of 2028 and 2068, 2027 and 2069; a previous start at the
timer. -/
theorem witness_TrackedStartsAreMeasured :
    (let ok (s : Part) := s.inReset = false ∧ s.ref.mode = .tracking ∧ s.ref.tracked = some 1
      ∧ s.inLock 1 = true
    (ok (trackingAt 1023 true) ∧ (trackingAt 1023 true).ref.realigning = true
        ∧ (trackingAt 1023 true).ref.timer < 1024)
      ∧ (ok (trackingAt 1024 true) ∧ (trackingAt 1024 true).ref.realigning = true
        ∧ 1024 ≤ (trackingAt 1024 true).ref.timer)
      ∧ (∀ n ∈ [2028, 2068], ok (trackingAt n false) ∧ (trackingAt n false).ref.realigning = false
        ∧ (trackingAt n false).ref.lastStart = .frameStart 1 ∧ 2028 ≤ (trackingAt n false).ref.timer
        ∧ (trackingAt n false).ref.timer ≤ 2068)
      ∧ (ok (trackingAt 2027 false) ∧ (trackingAt 2027 false).ref.timer < 2028)
      ∧ (ok (trackingAt 2069 false) ∧ 2068 < (trackingAt 2069 false).ref.timer)
      ∧ (let s := locked.setRef { (trackingAt 2048 false).ref with lastStart := .localTimer }
        ok s ∧ s.ref.realigning = false ∧ s.ref.lastStart ≠ .frameStart 1)) := by decide +kernel

theorem witness_TheSixtyFourthStartSwitches :
    (let s := qualifying 3 63
    s.inReset = false ∧ s.ref.candidate = some 3 ∧ s.ref.count = 63 ∧ s.ref.mode = .qualify
      ∧ s.ref.list.find? (fun p => decide ((s.port p).lock = .locked)) = some 3
      ∧ s.startDue .localTimer = true)
    ∧ (let s := reverting (some 1) 63 true
      s.inReset = false ∧ s.ref.candidate = some 1 ∧ s.ref.count = 63 ∧ s.ref.mode = .tracking
        ∧ s.ref.tracked = some 0 ∧ s.ref.revertive = true
        ∧ (s.ref.list.takeWhile fun p => decide (p ≠ 0)).find?
          (fun p => decide ((s.port p).lock = .locked)) = some 1
        ∧ s.startDue (.frameStart 0) = true) := by decide +kernel

/-- No start due; port 2 with eight objects, alone and with port 3 beside it, whose list is due; no object; a
start of the tracked port; a port in lock; timers at 2046 and 2048. -/
theorem witness_LapseFreesTheHolding :
    (let ok (s : Part) := s.inReset = false ∧ s.ref.tracked = none ∧ s.startDue .localTimer = true
    let two := listed ((holding (timed away 2048) (.slot 1 9) 3).setLapseTimer 3 2047) 3
      ⟨[⟨1, 9, .idle⟩], some .next⟩
    let none := timed ((lockAt locked 2 .dark).setLapseTimer 2 2047) 2048
    let followed := (away.setRef (trackingAt 2048 false).ref)
    (away.inReset = false ∧ away.ref.tracked = .none ∧ away.startDue .localTimer = false)
      ∧ (ok (timed away 2048) ∧ (timed away 2048).lapses 2 ∧ ¬ (timed away 2048).lapses 3
        ∧ (timed away 2048).claims.holder (.slot 0 1) = some 2
        ∧ (timed away 2048).inLock 0 = true ∧ ((timed away 2048).chan 0).mask.getLsbD 3 = true
        ∧ ∀ m, ¬ (timed away 2048).listDue m ((timed away 2048).exch.counter + 1))
      ∧ (ok two ∧ two.lapses 2 ∧ two.lapses 3 ∧ two.claims.holder (.slot 1 9) = some 3
        ∧ two.listDue 3 (two.exch.counter + 1) ∧ ¬ two.listDue 2 (two.exch.counter + 1))
      ∧ (ok none ∧ none.lapses 2 ∧ (∀ p i, none.claims.holder (.slot p i) ≠ some 2)
        ∧ (∀ k, none.claims.holder (.channel k) ≠ some 2) ∧ none.claims.holder .timing ≠ some 2)
      ∧ (followed.inReset = false ∧ followed.ref.tracked = some 1
        ∧ followed.startDue (.frameStart 1) = true ∧ followed.lapses 2)
      ∧ (ok (timed away 2048) ∧ (timed away 2048).inLock 1 = true)
      ∧ (ok (timed (away.setLapseTimer 2 2046) 2048) ∧ (away.setLapseTimer 2 2046).lapseTimer 2 ≠ 2047)
      ∧ (ok (timed (away.setLapseTimer 2 2048) 2048)
        ∧ (away.setLapseTimer 2 2048).lapseTimer 2 ≠ 2047)) := by decide +kernel

/-! ### Witnesses: port units and the control channel -/

/-- DARK, driven high and at a held level; SEEK and CONFIRM with the fill byte on DOUT, no bit, one, eight and
nine bits of it driven. -/
theorem witness_ClockFoundAndLostOutOfLock :
    (let held := Part.reset.modifyPort 3 fun u => { u with dout := .held false }
    let seek := run (.clockFound 3) held
    Part.reset.inReset = false ∧ (Part.reset.port 0).lock = .dark ∧ (Part.reset.port 0).dout = .high
      ∧ held.inReset = false ∧ (held.port 3).lock = .dark ∧ (held.port 3).dout = .held false
      ∧ seek.inReset = false ∧ (seek.port 3).lock = .seek ∧ (seek.port 3).dout = .pattern false
      ∧ (∀ n ∈ [0, 7, 8], (seek.port 3).profile.fill.getMsbD (n % 8) = true)
      ∧ (lockAt seek 3 (.confirm 1)).inReset = false
      ∧ ((lockAt seek 3 (.confirm 1)).port 3).lock = .confirm 1) := by decide +kernel

/-- A port that sends a frame of 32 slots: no bit driven, its first bit, and its last. -/
theorem witness_ClockWatchLeavesLock :
    (let s := tracking.modifyPort 3 fun u => { u with dout := .frame true (List.replicate 31 7 ++ [0x80]) }
    let f : Frame := List.replicate 31 7 ++ [0x80]
    s.inReset = false ∧ s.inLock 3 = true ∧ (s.port 3).action = none
      ∧ (s.port 3).dout = .frame true f
      ∧ f[0]? = some 7 ∧ 1 = 8 * 0 + 0 + 1
      ∧ f[31]? = some 0x80 ∧ 7 < 8 ∧ 256 = 8 * 31 + 7 + 1) := by decide +kernel

/-- SEEK; CONFIRM at position B; at 1 and B - 1; a missing pulse; in lock at 1 and B - 1. -/
theorem witness_PulsesAcquireTheFrame :
    locked.inReset = false ∧ 8 * (locked.port 2).profile.slots = 256
      ∧ ((lockAt locked 2 .seek).port 2).lock = .seek
      ∧ ((lockAt locked 2 (.confirm 0)).port 2).lock = .confirm 0
      ∧ ((lockAt locked 2 (.confirm 1)).port 2).lock = .confirm 1
      ∧ (∀ position ∈ [1, 255], 1 ≤ position ∧ position ≤ 256 - 1)
      ∧ locked.inLock 2 = true := by decide +kernel

theorem witness_SecondGoodSpacingLocks :
    (let s := lockAt locked 2 (.confirm 1)
    s.inReset = false ∧ (s.port 2).lock = .confirm 1 ∧ (s.outStores.get 2).primed = false
      ∧ (s.chan 2).sender = none ∧ (s.chan 2).replies = [] ∧ (s.chan 2).notices = []) := by
  decide +kernel

/-- Good and bad ends in LOCKED, COAST(1) and COAST(2), a good end in COAST(3), and a candidate's bad end in
QUALIFY; an end in COAST(3) whose outbound share was taken ahead; a full inbound store and a port that its
SLIP reaches. -/
theorem witness_FrameEndsAreJudgedAndCompleted :
    (let frame : List Byte := List.replicate 32 7
    let fits (s : Part) (p : Port) := s.inReset = false ∧ s.inLock p = true
      ∧ ((s.port p).received ++ frame).length = (s.port p).profile.slots
    let ok (s : Part) (p : Port) := fits s p ∧ (s.port p).owing = .nothing
      ∧ ¬ ((s.port p).actionDue = true ∧ (s.port p).action ≠ none)
    (∀ n ∈ [1, 2, 3], ok (lockAt locked 2 (.coast n)) 2
        ∧ ((lockAt locked 2 (.coast n)).port 2).endsWell true
        ∧ ((lockAt locked 2 (.coast n)).port 2).lock = .coast n
        ∧ ¬ ((lockAt locked 2 (.coast n)).port 2).endsWell false)
      ∧ (ok (qualifying 3 0) 3 ∧ (qualifying 3 0).ref.candidate = some 3
        ∧ (qualifying 3 0).ref.mode = .qualify ∧ (qualifying 3 0).inLock 0 = true
        ∧ ((qualifying 3 0).chan 0).mask.getLsbD 2 = true
        ∧ ((qualifying 3 0).port 3).lock = .locked ∧ ((qualifying 3 0).port 3).endsWell true
        ∧ ¬ ((qualifying 3 0).port 3).endsWell false)
      ∧ (let s := locked.modifyPort 2 fun u => { u with misplaced := true }
        ok s 2 ∧ (s.port 2).lock = .locked ∧ ¬ (s.port 2).endsWell true)
      ∧ (let s := locked.modifyPort 2 fun u => { u with lock := .coast 3, owing := .completion }
        fits s 2 ∧ (s.port 2).owing = .completion ∧ (s.port 2).lock = .coast 3)
      ∧ (let s : Part := { locked with
          inStores := locked.inStores.set 2 ⟨List.replicate 4 frame, true, none, .two⟩
          chans := locked.chans.set 1 { ControlChannel.reset with mask := 0x02 } }
        ok s 2 ∧ (s.inStores.get 2).queue.length ≥ 4 ∧ s.inLock 1 = true
          ∧ (s.chan 1).mask.getLsbD 1 = true)) := by decide +kernel

/-- Port 1 with its outbound share to come, a store and a channel. -/
def owingAt (st : Store) (c : ControlChannel) : Part :=
  { locked.modifyPort 1 fun u => { u with owing := .start } with
    outStores := locked.outStores.set 1 st, chans := locked.chans.set 1 c }

/-- A frame of 32 bytes. -/
def aFrame : Frame := List.replicate 32 7

/-- A reply. -/
def aReply : Reply := ⟨0x85, 0x2A, .ok, [3], false⟩

/-- A notice in its queue. -/
def aNotice : QueuedNotice := ⟨.claimsFreed 2 8, 0⟩

/-- A message with five bytes and `n` of them placed. -/
def sendingAt (n : Nat) : ControlChannel :=
  { ControlChannel.reset with sender := some ⟨[0xD2, 2, 0x85, 0x2A, 9], n, true⟩ }

/-- Taken ahead already; a fourth bad frame; a reply's frame end; a request that waits behind a reply; and with
nothing owing an end without a pulse in COAST(2) and one with a pulse in COAST(3). -/
theorem witness_OutboundFrameStartsSendOneFrame_starts :
    (let at1 (l : LockState) (o : Owing) (a : Option PortAction) : Part := locked.modifyPort 1 fun u =>
      { u with lock := l, owing := o, action := a, actionDue := a.isSome }
    let base (s : Part) := s.inReset = false ∧ s.inLock 1 = true
    let nothing (s : Part) := base s ∧ (s.port 1).owing = .nothing
    let ahead := at1 .locked .completion none
    let last := at1 (.coast 3) .nothing none
    let due := at1 .locked .nothing (some .restart)
    let second := at1 (.coast 2) .nothing none
    let c : ControlChannel :=
      { ControlChannel.reset with replies := List.replicate 4 aReply, intake := [[1, 7]] }
    (base ahead ∧ (ahead.port 1).owing = .completion)
      ∧ (nothing last ∧ (last.port 1).lock = .coast 3 ∧ ¬ (last.port 1).endsWell false
        ∧ (last.port 1).endsWell true ∧ (last.port 1).actionDue = false)
      ∧ (nothing due ∧ (due.port 1).actionDue = true ∧ (due.port 1).action ≠ none)
      ∧ (nothing second ∧ (second.port 1).lock = .coast 2 ∧ (second.port 1).actionDue = false)
      ∧ (base (owingAt .reset c) ∧ ((owingAt .reset c).port 1).owing = .start
        ∧ ((owingAt .reset c).chan 1).sender = none ∧ ((owingAt .reset c).chan 1).replies ≠ [])) := by
  decide +kernel

/-- A store not primed, empty and full; the first and the last byte of a message; nothing waiting, a reply, and a
notice. -/
theorem witness_OutboundFrameStartsSendOneFrame :
    (let ok (s : Part) := s.inReset = false ∧ s.inLock 1 = true ∧ (s.port 1).owing = .start
      ∧ ((s.chan 1).sender = none → (s.chan 1).intake = [])
    (ok (owingAt .reset .reset) ∧ ((owingAt .reset .reset).outStores.get 1).primed = false
        ∧ ((owingAt .reset .reset).chan 1).sender = none
        ∧ ((owingAt .reset .reset).chan 1).replies = []
        ∧ ((owingAt .reset .reset).chan 1).notices = [])
      ∧ (∀ n ∈ [1, 4], ok (owingAt ⟨[], true, some aFrame, .two⟩ (sendingAt n))
        ∧ ((owingAt ⟨[], true, some aFrame, .two⟩ (sendingAt n)).chan 1).sender
          = some ⟨[0xD2, 2, 0x85, 0x2A, 9], n, true⟩)
      ∧ ok (owingAt ⟨[aFrame, aFrame, aFrame, aFrame], true, none, .two⟩
        { ControlChannel.reset with replies := [aReply] })
      ∧ ok (owingAt ⟨[aFrame], true, none, .one⟩ { ControlChannel.reset with notices := [aNotice] })) := by
  decide +kernel

/-- A repeat whose SLIP reaches port 3, and a frame on the wire before. -/
theorem witness_OutboundFrameStartsSendOneFrame_slip :
    (let a := owingAt ⟨[], true, some aFrame, .two⟩ .reset
    let s : Part := { a.modifyPort 1 fun u => { u with dout := .frame true (List.replicate 31 7 ++ [1]) } with
      chans := a.chans.set 3 { ControlChannel.reset with mask := 0x02 } }
    s.inReset = false ∧ s.inLock 1 = true ∧ (s.port 1).owing = .start ∧ (s.chan 1).sender = none
      ∧ (s.chan 1).replies = [] ∧ (s.outStores.get 1).primed = true ∧ (s.outStores.get 1).queue = []
      ∧ s.inLock 3 = true ∧ (s.chan 3).mask.getLsbD 1 = true
      ∧ (s.port 1).dout = .frame true (List.replicate 31 7 ++ [1])) := by decide +kernel

/-- Four replies, and no reply with eight notices; the outbound share owing, and nothing owing, at a frame start
in LOCKED and with no pulse recorded in COAST(3); one request waiting, and two. -/
theorem witness_RepliesAndNoticesStart :
    (let base (s : Part) := s.inReset = false ∧ s.inLock 1 = true ∧ (s.chan 1).sender = none
    let starts (s : Part) := (s.port 1).owing = .nothing
      ∧ ¬ ((s.port 1).actionDue = true ∧ (s.port 1).action ≠ none)
      ∧ ((s.port 1).misplaced = false ∨ (s.port 1).lock = .locked ∨ (s.port 1).lock = .coast 1
        ∨ (s.port 1).lock = .coast 2)
    let c (intake : List (List Byte)) : ControlChannel := { ControlChannel.reset with
      replies := List.replicate 4 aReply, overrun := 255, intake := intake }
    let a (intake : List (List Byte)) := owingAt .reset (c intake)
    let b : Part := { locked with
      chans := locked.chans.set 1 { ControlChannel.reset with notices := List.replicate 8 aNotice } }
    (base (a []) ∧ ((a []).port 1).owing = .start ∧ ((a []).chan 1).intake = []
        ∧ ((a []).chan 1).replies = aReply :: List.replicate 3 aReply)
      ∧ (base b ∧ starts b ∧ (b.chan 1).replies = [] ∧ (b.chan 1).notices = aNotice :: List.replicate 7 aNotice)
      ∧ (base (lockAt b 1 (.coast 3)) ∧ starts (lockAt b 1 (.coast 3)))
      ∧ (base (a [[1, 7]]) ∧ ((a [[1, 7]]).port 1).owing = .start ∧ ((a [[1, 7]]).chan 1).replies ≠ []
        ∧ ((a [[1, 7]]).chan 1).intake = [1 :: 7 :: []])
      ∧ (base (a [[0x0C, 7, 0x20, 0, 1, 1], [1, 8]])
        ∧ ((a [[0x0C, 7, 0x20, 0, 1, 1], [1, 8]]).port 1).owing = .start
        ∧ ((a [[0x0C, 7, 0x20, 0, 1, 1], [1, 8]]).chan 1).replies.length = 4
        ∧ ((a [[0x0C, 7, 0x20, 0, 1, 1], [1, 8]]).chan 1).intake
          = [0x0C :: 7 :: [0x20, 0, 1, 1], [1, 8]])) := by decide +kernel

/-- A port of no role in the reference record, and the tracked port. -/
theorem witness_FourthBadFrameLeavesLock :
    ∀ p ∈ ([2, 1] : List Port), (let s := lockAt tracking p (.coast 3)
    s.inReset = false ∧ (s.port p).lock = .coast 3 ∧ ¬ (s.port p).endsWell false
      ∧ (s.port p).action = none ∧ (s.port p).owing = .nothing) := by decide +kernel

/-- Port 3 with a pending action, its frame end due or not. -/
def acting (a : PortAction) (due : Bool) : Part :=
  tracking.modifyPort 3 fun u => { u with action := some a, actionDue := due }

/-- The frame end due, in LOCKED good and bad; a fourth bad frame, due and not; the clock watch. -/
theorem witness_RestartTakesEffect :
    (let ok (s : Part) := s.inReset = false ∧ s.inLock 3 = true ∧ (s.port 3).action = some .restart
      ∧ (s.port 3).owing = .nothing
    (ok (acting .restart true) ∧ ((acting .restart true).port 3).actionDue = true
        ∧ ((acting .restart true).port 3).endsWell true ∧ ((acting .restart true).port 3).lock = .locked
        ∧ ¬ ((acting .restart true).port 3).endsWell false)
      ∧ (∀ due, ok (lockAt (acting .restart due) 3 (.coast 3))
        ∧ ((lockAt (acting .restart due) 3 (.coast 3)).port 3).lock = .coast 3
        ∧ ¬ ((lockAt (acting .restart due) 3 (.coast 3)).port 3).endsWell false)
      ∧ ok (acting .restart false)) := by decide +kernel

/-- Port 3 goes from 32 slots to 64 with its control slot last, so that slot 63 is affected and slots 62 and 0
are not; port 0's armed list loses its one edit, which names it. The frame end due, in LOCKED good and bad;
a fourth bad frame, due and not; the clock watch. -/
theorem witness_ProfileChangeTakesEffect :
    (let at3 (l : LockState) (due : Bool) := listed (holding (mapped
      (lockAt (acting (.profile .s64 .last) due) 3 l) 0 5 (.inbound 3 63) 1)
      (.slot 0 6) 0) 0 ⟨[⟨0, 6, .inbound 3 63⟩], some .next⟩
    let ok (s : Part) := s.inReset = false ∧ s.inLock 3 = true
      ∧ (s.port 3).action = some (.profile .s64 .last) ∧ (s.port 3).owing = .nothing
      ∧ s.inLock 0 = true
      ∧ (s.chan 0).mask.getLsbD 0 = true ∧ (s.entry 0 5).source = .inbound 3 63
      ∧ (s.list 0).target = some .next ∧ (s.list 0).edits ≠ []
    (ok (at3 .locked true) ∧ ((at3 .locked true).port 3).actionDue = true
        ∧ ((at3 .locked true).port 3).endsWell true ∧ ((at3 .locked true).port 3).lock = .locked
        ∧ ¬ ((at3 .locked true).port 3).endsWell false)
      ∧ (∀ due, ok (at3 (.coast 3) due) ∧ ((at3 (.coast 3) due).port 3).lock = .coast 3
        ∧ ¬ ((at3 (.coast 3) due).port 3).endsWell false)
      ∧ ok (at3 .locked false)) := by decide +kernel

/-- Port 3 goes from 64 slots to 32 with its control slot last: slots 31 and 63 are affected, slot 30 is not. -/
theorem witness_ProfileChangeTakesEffect_fewer :
    (let wide (l : LockState) := (lockAt (acting (.profile .s32 .last) true) 3 l).modifyPort 3 fun u =>
      { u with profile := { u.profile with slotCount := .s64 } }
    let at3 (l : LockState) := listed (holding (mapped (mapped (wide l) 0 5 (.inbound 3 63) 1) 0 7
      (.inbound 3 30) 1) (.slot 3 40) 0) 0 ⟨[⟨3, 40, .constant 7⟩], some .next⟩
    let ok (s : Part) := s.inReset = false ∧ s.inLock 3 = true
      ∧ (s.port 3).action = some (.profile .s32 .last) ∧ (s.port 3).owing = .nothing
      ∧ (s.port 3).profile.slots = 64 ∧ (s.entry 0 5).source = .inbound 3 63
      ∧ (s.entry 0 7).source = .inbound 3 30 ∧ s.claims.holder (.slot 3 40) = some 0
      ∧ (s.list 0).target = some .next ∧ (s.list 0).edits ≠ [] ∧ s.inLock 0 = true
    (ok (at3 .locked) ∧ ((at3 .locked).port 3).actionDue = true ∧ ((at3 .locked).port 3).lock = .locked)
      ∧ (ok (at3 (.coast 3)) ∧ ((at3 (.coast 3)).port 3).lock = .coast 3
        ∧ ¬ ((at3 (.coast 3)).port 3).endsWell false)) := by decide +kernel

/-- A port with a pending action, its frame end due. -/
def dueAt (s : Part) (p : Port) (a : PortAction) : Part :=
  s.modifyPort p fun u => { u with action := some a, actionDue := true }

/-- Every way of leaving lock: the clock watch at any port; a fourth bad frame; the reply's frame end of a
RESTART, good, and of a profile change, bad. -/
theorem witness_LockChangesReachTheReference :
    (∀ (s : Part) (p : Port), s.leavesBy p (.clockWatchExpiry ⟨p, 0⟩) .dark .clockLost
      { (s.port p).counters with lockLosses := (s.port p).counters.lockLosses + 1 })
    ∧ (lockAt tracking 1 (.coast 3)).leavesBy 1 (.frameEnd 1 false [] .whole) .seek .framingLost
      ⟨1, 1, 0, 0, 0, 0, 0, 0, 0⟩
    ∧ (dueAt tracking 1 .restart).leavesBy 1 (.frameEnd 1 true [] .whole) .seek .restart .reset
    ∧ (dueAt (qualifying 3 9) 3 (.profile .s64 .last)).leavesBy 3 (.frameEnd 3 false [] .completion) .seek
      .profile ⟨1, 0, 0, 0, 0, 0, 0, 0, 0⟩ := by
  refine ⟨fun s p => .inl ⟨0, rfl, rfl, rfl, rfl⟩,
    .inr ⟨false, [], .whole, rfl, by decide, by decide +kernel, rfl, .inl ?_⟩,
    .inr ⟨true, [], .whole, rfl, by decide, by decide +kernel, rfl, .inr ⟨by decide +kernel, by decide +kernel,
      .inl ⟨by decide +kernel, rfl⟩, by decide +kernel⟩⟩,
    .inr ⟨false, [], .completion, rfl, by decide, by decide +kernel, rfl, .inr ⟨by decide +kernel,
      by decide +kernel, .inr ⟨.s64, .last, by decide +kernel, rfl⟩, by decide +kernel⟩⟩⟩
  decide +kernel

/-- The tracked port at a timer one short of the held period and at it; a candidate in QUALIFY and in
TRACKING; a port of no role. -/
theorem witness_LockChangesReachTheReference_roles :
    (let ok (s : Part) (p : Port) := s.inReset = false ∧ s.inLock p = true
    let period (s : Part) := s.ref.held.getD 2048
    (ok (trackingAt 2048 false) 1 ∧ (trackingAt 2048 false).ref.mode = .tracking
        ∧ (trackingAt 2048 false).ref.tracked = some 1 ∧ (trackingAt 2048 false).ref.candidate ≠ some 1
        ∧ (trackingAt 2048 false).ref.timer < period (trackingAt 2048 false)
        ∧ (trackingAt 2048 false).inLock 0 = true
        ∧ ((trackingAt 2048 false).chan 0).mask.getLsbD 2 = true)
      ∧ (∀ s ∈ [trackingAt 2049 false, lockAt tracking 1 (.coast 3), dueAt tracking 1 .restart],
        ok s 1 ∧ s.ref.mode = .tracking ∧ s.ref.tracked = some 1 ∧ s.ref.candidate ≠ some 1
          ∧ period s ≤ s.ref.timer)
      ∧ (∀ s ∈ [qualifying 3 9, dueAt (qualifying 3 9) 3 (.profile .s64 .last)],
        ok s 3 ∧ s.ref.candidate = some 3 ∧ (s.port 3).lock = .locked ∧ s.ref.mode = .qualify
          ∧ s.inLock 0 = true ∧ (s.chan 0).mask.getLsbD 2 = true)
      ∧ (∀ s ∈ [reverting (some 1) 9 true, dueAt (reverting (some 1) 9 true) 1 .restart],
        ok s 1 ∧ s.ref.candidate = some 1 ∧ (s.port 1).lock = .locked ∧ s.ref.mode = .tracking)
      ∧ (ok tracking 3 ∧ tracking.ref.candidate ≠ some 3 ∧ tracking.ref.tracked ≠ some 3)) := by
  decide +kernel

/-- Port 0 in lock with a receiver. -/
def receiving (st : RxState) (partialMessage : Option (List Byte)) (running : Byte) : Part :=
  locked.setReceiver 0 ⟨st, partialMessage, running⟩

/-- HUNT with the sync byte and another; LENGTH with 2, 32, 1 and 33; BODY; CHECK with a wrong byte. -/
theorem witness_TheReceiverActsByStateAndByte :
    (let at0 (s : Part) := (s.chan 0).rx
    let ok (s : Part) := s.inReset = false ∧ s.inLock 0 = true
    (ok locked ∧ (at0 locked).state = .hunt ∧ (0xD3 : Byte) ≠ 0xD2)
      ∧ (ok (receiving .length (some []) 0) ∧ (at0 (receiving .length (some []) 0)).state = .length
        ∧ (at0 (receiving .length (some []) 0)).partialMessage = some []
        ∧ (∀ b ∈ ([2, 32] : List Byte), 2 ≤ b.toNat ∧ b.toNat ≤ 32)
        ∧ ∀ b ∈ ([1, 33] : List Byte), b.toNat < 2 ∨ 32 < b.toNat)
      ∧ (ok (receiving .body (some [2, 5]) 7) ∧ (at0 (receiving .body (some [2, 5]) 7)).state = .body
        ∧ (at0 (receiving .body (some [2, 5]) 7)).partialMessage = some (2 :: [5]))
      ∧ (ok (receiving .check (some [2, 5, 42]) 0xA6)
        ∧ (at0 (receiving .check (some [2, 5, 42]) 0xA6)).state = .check
        ∧ (0xA5 : Byte) ≠ (at0 (receiving .check (some [2, 5, 42]) 0xA6)).running)) := by decide +kernel

/-- Port 0 in CHECK, with `i` messages in the intake and `r` replies. -/
def checking (i r : Nat) : Part :=
  { locked with chans := locked.chans.set 0 { ControlChannel.reset with
      rx := ⟨.check, some [2, 5, 42], 0xA6⟩
      intake := List.replicate i [1, 7], replies := List.replicate r aReply } }

/-- A wrong check byte; a full intake; a full reply queue with 0 and 1 waiting; both free, with 0 and 3
replies. -/
theorem witness_AMessageIsReceived :
    (let ok (s : Part) := s.inReset = false ∧ s.inLock 0 = true ∧ (s.chan 0).rx.state = .check
      ∧ (s.chan 0).rx.partialMessage = some (2 :: 5 :: 42 :: []) ∧ (s.chan 0).rx.running = 0xA6
    (ok (checking 0 0) ∧ (0xA5 : Byte) ≠ 0xA6)
      ∧ (ok (checking 2 4) ∧ ((checking 2 4).chan 0).intake.length = 2)
      ∧ (∀ i ∈ [0, 1], ok (checking i 4) ∧ ((checking i 4).chan 0).intake.length < 2
        ∧ 4 ≤ ((checking i 4).chan 0).replies.length)
      ∧ (∀ r ∈ [0, 3], ok (checking 0 r) ∧ ((checking 0 r).chan 0).intake = []
        ∧ ((checking 0 r).chan 0).replies.length < 4)) := by decide +kernel

/-- Bodies of 2 and 32 bytes, in LOCKED and in COAST. -/
theorem witness_FramedMessagesAreReceivedWhole :
    ([] : List Byte).length ≤ 30 ∧ (List.replicate 30 (0xD2 : Byte)).length ≤ 30
      ∧ locked.inReset = false ∧ locked.inLock 0 = true ∧ (locked.chan 0).rx.state = .hunt
      ∧ (lockAt locked 0 (.coast 3)).inLock 0 = true
      ∧ ((lockAt locked 0 (.coast 3)).chan 0).rx.state = .hunt := by decide +kernel

/-- A port out of lock, one whose mask excludes SLIP, and the port concerned; 7 and 8 notices waiting; a
directed notice. -/
theorem witness_NoticesAreRouted :
    (let c (n : Nat) : ControlChannel :=
      { ControlChannel.reset with notices := List.replicate n aNotice, lost := 255 }
    let full (n : Nat) : Part := { holding locked (.channel 3) 0 with chans := locked.chans.set 0 (c n) }
    (lockAt locked 0 .seek).inLock 0 = false ∧ (locked.chan 0).mask.getLsbD 1 = false
      ∧ (full 7).inLock 0 = true ∧ (1 : Port) ≠ 0 ∧ ((full 7).chan 0).mask.getLsbD 0 = true
      ∧ ((full 7).chan 0).mask.getLsbD 2 = true ∧ ((full 7).chan 0).mask.getLsbD 3 = true
      ∧ ((full 7).chan 0).mask.getLsbD 4 = true
      ∧ (full 7).claims.holder (.channel 3) = some 0
      ∧ ((full 7).chan 0).notices.length < 8 ∧ 8 ≤ ((full 8).chan 0).notices.length) := by
  decide +kernel

/-! ### Witnesses: requests -/

theorem witness_ProbeReportsTheStanding : underArmed.ready 0 ∧ underArmed.ready 3 := by decide +kernel

/-- Port bytes 3 and 4, slot bytes 63 and 64. -/
theorem witness_ReadRouteReportsTheEntry :
    locked.ready 1 ∧ 3 < (4 : Byte).toNat ∧ (3 : Byte).toNat ≤ 3 ∧ 63 < (64 : Byte).toNat
      ∧ (3 : Byte).toNat = (3 : Port).val ∧ (63 : Byte).toNat = (63 : Slot).val := by decide +kernel

theorem witness_ReadPortReportsTheRecord :
    locked.ready 1 ∧ 3 < (4 : Byte).toNat ∧ (3 : Byte).toNat = (3 : Port).val := by decide +kernel

/-- The empty list and one of four ports. -/
theorem witness_ReadReferenceReportsTheRecord :
    locked.ready 1 ∧ locked.ref.list.length ≤ 4
      ∧ (locked.setRef { locked.ref with list := [3, 0, 2, 1] }).ready 1
      ∧ (locked.setRef { locked.ref with list := [3, 0, 2, 1] }).ref.list.length ≤ 4 := by decide +kernel

theorem witness_ReadChannelReportsTheRecord :
    locked.ready 1 ∧ 7 < (8 : Byte).toNat ∧ (7 : Byte).toNat = (7 : Channel).val := by decide +kernel

/-- Slots 30 and 31 of port 2, the last that it carries, free and held by the requester; and held by another. -/
theorem witness_ClaimGrantsAllOrNothing :
    (let os := [ClaimObject.slot 2 30, .slot 2 31]
    let mine := holding locked (.slot 2 31) 1
    let theirs := holding mine (.slot 2 30) 0
    os = (((List.finRange 64).filter fun i => decide ((30 : Byte).toNat ≤ i.val
        ∧ i.val < (30 : Byte).toNat + (2 : Byte).toNat)).map fun i => ClaimObject.slot 2 i)
      ∧ 1 ≤ (2 : Byte).toNat ∧ (30 : Byte).toNat + (2 : Byte).toNat ≤ (mine.port 2).profile.slots
      ∧ ¬ ((30 : Byte).toNat ≤ (mine.port 2).profile.control
        ∧ (mine.port 2).profile.control < (30 : Byte).toNat + (2 : Byte).toNat)
      ∧ (mine.ready 1 ∧ ∀ o ∈ os, mine.claims.holder o = none ∨ mine.claims.holder o = some 1)
      ∧ (theirs.ready 1 ∧ os = [] ++ ClaimObject.slot 2 30 :: [.slot 2 31]
        ∧ theirs.claims.holder (.slot 2 30) = some 0 ∧ (0 : Port) ≠ 1)
      ∧ (locked.ready 1 ∧ locked.claims.holder (.channel 7) = none
        ∧ locked.claims.holder .timing = none)) := by decide +kernel

/-- The class bytes 0 and 4, the counts 0 and 65 and 1 and 64, port byte 4, an end one beyond slot 31, the
control slot first, and channel byte 8. -/
theorem witness_ClaimAndReleaseAreChecked :
    locked.ready 1 ∧ ((0 : Byte).toNat = 0) ∧ 3 < (4 : Byte).toNat ∧ 64 < (65 : Byte).toNat
      ∧ (∀ c ∈ ([1, 64] : List Byte), 1 ≤ c.toNat ∧ c.toNat ≤ 64)
      ∧ (locked.port 2).profile.slots < (31 : Byte).toNat + (2 : Byte).toNat
      ∧ (0 : Byte).toNat + (1 : Byte).toNat ≤ (locked.port 2).profile.slots
      ∧ (0 : Byte).toNat ≤ (locked.port 2).profile.control
      ∧ (locked.port 2).profile.control < (0 : Byte).toNat + (1 : Byte).toNat
      ∧ 7 < (8 : Byte).toNat := by decide +kernel

/-- Slots 2 and 3 of port 1, held, with a list left armed and with one left empty; slot 4, which is free, and
channel 5. -/
theorem witness_ReleaseFreesAndRemovesEdits :
    (let os := [ClaimObject.slot 1 2, .slot 1 3]
    let short := listed underArmed 0 ⟨[⟨1, 2, .idle⟩], some .next⟩
    os = (((List.finRange 64).filter fun i => decide ((2 : Byte).toNat ≤ i.val
        ∧ i.val < (2 : Byte).toNat + (2 : Byte).toNat)).map fun i => ClaimObject.slot 1 i)
      ∧ 1 ≤ (2 : Byte).toNat ∧ (2 : Byte).toNat + (2 : Byte).toNat ≤ (underArmed.port 1).profile.slots
      ∧ ¬ ((2 : Byte).toNat ≤ (underArmed.port 1).profile.control
        ∧ (underArmed.port 1).profile.control < (2 : Byte).toNat + (2 : Byte).toNat)
      ∧ (underArmed.ready 0 ∧ (∀ o ∈ os, underArmed.claims.holder o = some 0)
        ∧ ((underArmed.list 0).edits.filter fun e => !os.contains (.slot e.port e.slot)) ≠ [])
      ∧ (short.ready 0 ∧ (∀ o ∈ os, short.claims.holder o = some 0)
        ∧ (short.list 0).target = some .next ∧ (short.list 0).edits ≠ []
        ∧ ((short.list 0).edits.filter fun e => !os.contains (.slot e.port e.slot)) = [])
      ∧ ((∀ x ∈ [ClaimObject.slot 1 3], underArmed.claims.holder x = some 0)
        ∧ underArmed.claims.holder (.slot 1 4) ≠ some 0)
      ∧ underArmed.claims.holder (.channel 5) ≠ some 0) := by decide +kernel

/-- Slot 31 of port 1, held by port 0, with a list of `n` edits on other slots. -/
def stagedAt (n : Nat) (target : Option Target) : Part :=
  listed (holding locked (.slot 1 31) 0) 0
    ⟨(List.finRange 64).drop 1 |>.take n |>.map fun i => ⟨1, i, .idle⟩, target⟩

/-- Fifteen edits and a new one, sixteen and a replacement; each kind of source, at the last slot, channel and
control slot's neighbour. -/
theorem witness_StagePutsOneEdit :
    (let again := listed (stagedAt 0 none) 0 ⟨[⟨1, 5, .idle⟩, ⟨1, 31, .constant 9⟩], none⟩
    (stagedAt 15 none).ready 0 ∧ (stagedAt 15 none).carries 1 31
      ∧ (stagedAt 15 none).claims.holder (.slot 1 31) = some 0 ∧ ((stagedAt 15 none).list 0).target = none
      ∧ (∀ e ∈ ((stagedAt 15 none).list 0).edits, ¬ (e.port = 1 ∧ e.slot = 31))
      ∧ ((stagedAt 15 none).list 0).edits.length < 16
      ∧ again.ready 0 ∧ again.carries 1 31 ∧ again.claims.holder (.slot 1 31) = some 0
      ∧ (again.list 0).target = none
      ∧ (again.list 0).edits = [⟨1, 5, .idle⟩] ++ ⟨1, 31, .constant 9⟩ :: []
      ∧ (∀ e ∈ [(⟨1, 5, .idle⟩ : Edit)] ++ [], ¬ (e.port = 1 ∧ e.slot = 31))
      ∧ (3 : Byte).toNat = (3 : Port).val ∧ (31 : Byte).toNat = (31 : Slot).val
      ∧ (stagedAt 15 none).carries 3 31 ∧ (stagedAt 15 none).carries 3 1
      ∧ (7 : Byte).toNat = (7 : Channel).val) := by decide +kernel

/-- Each row of the table: port 4; slots 32 and 63; the control slot; a slot not held; the sources (port 4),
slot 32 and slot 0 of port 2, channel 8 and kind 4; an armed list; a full one. -/
theorem witness_StageIsCheckedInOrder :
    (let s := stagedAt 16 none
    s.ready 0 ∧ 3 < (4 : Byte).toNat
      ∧ (∀ b ∈ ([32, 63] : List Byte), (s.port 1).profile.slots ≤ b.toNat)
      ∧ ((0 : Byte).toNat = (0 : Slot).val ∧ (0 : Slot).val < (s.port 1).profile.slots
        ∧ (0 : Slot).val = (s.port 1).profile.control)
      ∧ (s.carries 1 30 ∧ s.claims.holder (.slot 1 30) ≠ some 0)
      ∧ (s.carries 1 31 ∧ s.claims.holder (.slot 1 31) = some 0)
      ∧ (∀ x : Port, (4 : Byte).toNat ≠ x.val) ∧ ¬ s.carries 2 32 ∧ ¬ s.carries 2 0
      ∧ 7 < (8 : Byte).toNat ∧ 3 < (4 : Byte).toNat
      ∧ ((stagedAt 1 (some .next)).ready 0 ∧ ((stagedAt 1 (some .next)).list 0).target ≠ none)
      ∧ ((s.list 0).target = none ∧ 16 ≤ (s.list 0).edits.length
        ∧ ∀ e ∈ (s.list 0).edits, ¬ (e.port = 1 ∧ e.slot = 31))) := by decide +kernel

theorem witness_DiscardEmptiesTheList : threeEdits.ready 0 ∧ underArmed.ready 0 := by decide +kernel

/-- The mode bytes 2, 0 and 1; an empty list, one armed in either way and one not armed; the frames 1, 32767, 0
and 32768 ahead of the counter 04F0H. -/
theorem witness_ApplyArmsTheList :
    (let open_ := listed underArmed 0 ⟨[⟨1, 2, .idle⟩], none⟩
    let ahead (hi lo : Byte) := ((hi ++ lo : Half) - open_.exch.counter).toNat
    1 < (2 : Byte).toNat ∧ (1 : Byte).toNat ≤ 1
      ∧ (locked.ready 0 ∧ (locked.list 0).edits = [])
      ∧ (underArmed.ready 0 ∧ (underArmed.list 0).edits ≠ []
        ∧ (underArmed.list 0).target = some (.frame 0x0500))
      ∧ ((stagedAt 1 (some .next)).ready 0 ∧ ((stagedAt 1 (some .next)).list 0).edits ≠ []
        ∧ ((stagedAt 1 (some .next)).list 0).target = some .next)
      ∧ (open_.ready 0 ∧ (open_.list 0).edits ≠ [] ∧ (open_.list 0).target = none)
      ∧ ahead 0x04 0xF1 = 1 ∧ ahead 0x84 0xEF = 32767 ∧ ahead 0x04 0xF0 = 0
      ∧ ahead 0x84 0xF0 = 32768) := by decide +kernel

/-- A part whose timing port 2 holds. -/
def timingBy2 (r : RefUnit) : Part := holding (locked.setRef r) .timing 2

/-- A requester that holds timing and one that does not; each bad field; each row of R82, the timer one short
of the held period. -/
theorem witness_SetReferencesActsAtOnce :
    (let ok (s : Part) := s.ready 2 ∧ s.claims.holder .timing = some 2
      ∧ s.ref.timer < s.ref.held.getD 2048
    let tracked := timingBy2 (trackingAt 2048 false).ref
    let background := timingBy2 { (reverting (some 1) 9 true).ref with timer := 2048 }
    let qualify := timingBy2 { (qualifying 3 9).ref with timer := 2067 }
    let free := timingBy2 { RefUnit.reset with timer := 2047 }
    let list : List Port := [3, 0, 2, 1]
    locked.ready 2 ∧ locked.claims.holder .timing ≠ some 2 ∧ 1 < (2 : Byte).toNat
      ∧ (∃ b ∈ ([4] : List Byte), 3 < b.toNat) ∧ ¬ ([2, 2] : List Byte).Nodup
      ∧ list.length ≤ 4 ∧ ([3, 0, 2, 1] : List Byte) = list.map (fun q => BitVec.ofNat 8 q.val)
      ∧ list.Nodup ∧ (1 : Byte).toNat ≤ 1
      ∧ (ok tracked ∧ tracked.ref.mode = .tracking ∧ tracked.ref.tracked = some 1
        ∧ (1 : Port) ∉ [(0 : Port), 2] ∧ (1 : Port) ∈ list ∧ tracked.ref.candidate = none)
      ∧ (ok background ∧ background.ref.mode = .tracking ∧ background.ref.tracked = some 0
        ∧ background.ref.candidate = some 1 ∧ (1 : Port) ∉ [(0 : Port), 2] ∧ (0 : Port) ∈ [(0 : Port), 2])
      ∧ (ok qualify ∧ qualify.ref.mode = .qualify ∧ qualify.ref.candidate = some 3
        ∧ (3 : Port) ∉ [(0 : Port), 2] ∧ (3 : Port) ∈ list)
      ∧ (ok free ∧ free.ref.mode = .free)) := by
  refine ⟨?_, ?_, ?_, ?_, ?_, ?_, ?_, ?_, ?_, ?_, ?_, ?_, ?_⟩ <;> decide +kernel

/-- The same records with the timer at the period in use: a start is due in QUALIFY and FREE; in TRACKING the loss
takes one at once. -/
theorem witness_SetReferencesActsAtOnce_due :
    (let ok (s : Part) := s.ready 2 ∧ s.claims.holder .timing = some 2
      ∧ s.ref.held.getD 2048 ≤ s.ref.timer
    let tracked := timingBy2 (trackingAt 2049 false).ref
    let background := timingBy2 { (reverting (some 1) 9 true).ref with timer := 2049 }
    let qualify := timingBy2 { (qualifying 3 9).ref with timer := 2068 }
    let free := timingBy2 { RefUnit.reset with timer := 2048 }
    (ok tracked ∧ tracked.ref.mode = .tracking ∧ tracked.ref.tracked = some 1
        ∧ (1 : Port) ∉ [(0 : Port), 2] ∧ ([0, 2] : List Byte) = [(0 : Port), 2].map (fun q => BitVec.ofNat 8 q.val))
      ∧ (ok background ∧ background.ref.mode = .tracking ∧ background.ref.tracked = some 0
        ∧ background.ref.candidate = some 1 ∧ (0 : Port) ∈ [(0 : Port), 2])
      ∧ (ok qualify ∧ qualify.ref.mode = .qualify ∧ qualify.ref.candidate = some 3
        ∧ qualify.startDue .localTimer = true)
      ∧ (ok free ∧ free.ref.mode = .free ∧ free.startDue .localTimer = true)) := by decide +kernel

/-- Bad fields; a pending action and none; a structural change with a slot of its own in use and with none; no
change of structure. -/
theorem witness_ProfilesAndRestartsAreRecorded :
    (let pending := locked.modifyPort 3 fun u => { u with action := some .restart }
    let inUse := mapped (locked.modifyPort 3 fun u => { u with profile := ⟨.s64, .first, 0xFF, .two⟩ }) 0 5
      (.inbound 3 32) 1
    ¬ ((0x21 : Byte) = 0x20 ∨ (0x21 : Byte) = 0x40) ∧ 1 < (2 : Byte).toNat
      ∧ ¬ ((3 : Byte) = 0x01 ∨ (3 : Byte) = 0x02)
      ∧ (pending.ready 3 ∧ (pending.port 3).action ≠ none)
      ∧ (locked.ready 3 ∧ (locked.port 3).action = none
        ∧ (locked.port 3).profile.slotCount = .s32 ∧ (locked.port 3).profile.controlSlot = .first)
      ∧ (inUse.ready 3 ∧ (inUse.port 3).action = none ∧ (inUse.port 3).profile.slotCount ≠ .s32
        ∧ (inUse.entry 0 5).source = .inbound 3 32 ∧ 32 ≤ (32 : Slot).val)
      ∧ ((locked.port 3).profile.slotCount ≠ .s64
        ∧ (∀ i : Slot, locked.claims.holder (.slot 3 i) = none)
        ∧ (∀ (q : Port) (j i : Slot), (locked.entry q j).source ≠ .inbound 3 i)
        ∧ ∀ m : Port, (locked.list m).edits = [])) := by
  refine ⟨by decide +kernel, by decide +kernel, by decide +kernel, by decide +kernel, by decide +kernel,
    by decide +kernel, by decide +kernel, by decide +kernel, ?_, by decide +kernel⟩
  have h : ∀ (q : Port) (j : Slot), (locked.entry q j).source = .idle := by decide +kernel
  intro q j i
  rw [h]
  nofun

/-- The masks 20H and 1FH, the kind bytes 0 and 17. -/
theorem witness_MasksAndUnknownKindsAreAnswered :
    locked.ready 1 ∧ 32 ≤ (0x20 : Byte).toNat ∧ (0x1F : Byte).toNat < 32 ∧ (0 : Byte).toNat = 0
      ∧ 16 < (17 : Byte).toNat := by decide +kernel

/-- One field too few and one too many for each length. -/
theorem witness_WrongLengthsAreRefused :
    (let f (n : Nat) : List Byte := List.replicate n 1
    locked.ready 1 ∧ (f 1).length ≠ 0 ∧ (∀ n ∈ [0, 2], (f n).length ≠ 1)
      ∧ (∀ n ∈ [1, 3], (f n).length ≠ 2) ∧ (∀ n ∈ [2, 4], (f n).length ≠ 3)
      ∧ (∀ n ∈ [3, 5], (f n).length ≠ 4) ∧ (∀ n ∈ [4, 6], (f n).length ≠ 5)
      ∧ (f 0).length = 0 ∧ 5 < (f 6).length
      ∧ (∀ n ∈ [3, 5], (f n)[0]? = some 0x01 ∧ (f n).length ≠ 4)
      ∧ ([0x02] : List Byte)[0]? = some 0x02 ∧ ([0x02] : List Byte).length ≠ 2
      ∧ ([0x03, 0] : List Byte)[0]? = some 0x03 ∧ ([0x03, 0] : List Byte).length ≠ 1) := by
  decide +kernel

/-! ### Witnesses: playback and the pattern memory port -/

/-- The descriptor of 9.8. -/
def aDescriptor : Descriptor := ⟨.loop, 0x7F, 0x0012F8, 0x28, 8⟩

/-- Channel 7 of port 1, with a cache and a list of fetches. -/
def ordering (cache : List CacheEntry) (fetches : List Fetch) : Part :=
  ((holding loopPattern (.channel 7) 1).setCache cache).setFetches fetches

/-- Channel bytes 8 and 7, pattern bytes 64 and 63; a requester that does not hold; no memory; a hit of a channel
that waits elsewhere; a miss with no fetch for the pattern, of a channel that leaves its fetch without a
waiter; a miss with one, of a channel that waits on none, on another, and on that one. -/
theorem witness_PlayStartsAPattern :
    (let ok (s : Part) := s.ready 1 ∧ s.claims.holder (.channel 7) = some 1 ∧ s.mem.size ≠ .none
    let hit := ordering [⟨5, aDescriptor⟩, ⟨63, aDescriptor⟩] [⟨2, [7], .issued⟩]
    let left := ordering [] [⟨2, [7], .awaitingIssue⟩]
    let joined (ws : List Channel) := ordering [⟨5, aDescriptor⟩]
      [⟨2, [1, 7], .awaitingIssue⟩, ⟨63, ws, .issued⟩]
    7 < (8 : Byte).toNat ∧ (7 : Byte).toNat = (7 : Channel).val ∧ 63 < (64 : Byte).toNat
      ∧ (63 : Byte).toNat = (63 : Pattern).val
      ∧ (locked.ready 1 ∧ locked.claims.holder (.channel 7) ≠ some 1)
      ∧ ((holding locked (.channel 7) 1).ready 1 ∧ (holding locked (.channel 7) 1).mem.size = .none
        ∧ (holding locked (.channel 7) 1).claims.holder (.channel 7) = some 1)
      ∧ (ok hit ∧ hit.play.cache = [⟨5, aDescriptor⟩] ++ ⟨63, aDescriptor⟩ :: []
        ∧ ∀ e ∈ [(⟨5, aDescriptor⟩ : CacheEntry)] ++ [], e.pattern ≠ 63)
      ∧ (ok left ∧ (∀ e ∈ left.play.cache, e.pattern ≠ 63) ∧ ∀ f ∈ left.play.fetches, f.pattern ≠ 63)
      ∧ (∀ ws ∈ [[0], [7, 0]], ok (joined ws) ∧ (∀ e ∈ (joined ws).play.cache, e.pattern ≠ 63)
        ∧ (joined ws).play.fetches = [⟨2, [1, 7], .awaitingIssue⟩] ++ ⟨63, ws, .issued⟩ :: []
        ∧ ∀ f ∈ [(⟨2, [1, 7], .awaitingIssue⟩ : Fetch)] ++ [], f.pattern ≠ 63)) := by
  refine ⟨?_, ?_, ?_, ?_, ?_, ?_, ?_, ?_, ?_⟩ <;> decide +kernel

/-- Channel bytes 8 and 7; a requester that does not hold, and one that holds a channel that is the only waiter
of a fetch awaiting issue and one of two of another. -/
theorem witness_StopHaltsTheChannel :
    (let s := ordering [] [⟨3, [7], .awaitingIssue⟩, ⟨4, [0, 7], .awaitingIssue⟩]
    7 < (8 : Byte).toNat ∧ (7 : Byte).toNat = (7 : Channel).val
      ∧ s.ready 0 ∧ s.claims.holder (.channel 7) ≠ some 0
      ∧ s.ready 1 ∧ s.claims.holder (.channel 7) = some 1
      ∧ (⟨3, [7], .awaitingIssue⟩ : Fetch) ∈ s.play.fetches
      ∧ (∀ f ∈ s.play.fetches, f.pattern = 3 → f = ⟨3, [7], .awaitingIssue⟩)) := by decide +kernel

/-- Another state than IDLE; a fetch behind one that is issued; nothing to do; a refill of the channel next
after the pointer and of the pointer's own. -/
theorem witness_TheArbiterChoosesOneBurst :
    (let reading := run .arbiterChoice loopPattern
    let fetching := loopPattern.setFetches [⟨4, [1], .issued⟩, ⟨12, [0], .awaitingIssue⟩]
    let near := loopPattern.setMem { loopPattern.mem with pointer := 2 }
    let own := loopPattern.setMem { loopPattern.mem with pointer := 3 }
    (reading.inReset = false ∧ reading.mem.state ≠ .idle)
      ∧ (fetching.inReset = false ∧ fetching.mem.state = .idle
        ∧ fetching.play.fetches = [⟨4, [1], .issued⟩] ++ ⟨12, [0], .awaitingIssue⟩ :: []
        ∧ ∀ f ∈ [(⟨4, [1], .issued⟩ : Fetch)], f.progress = .issued ∧ f.pattern ≠ 12)
      ∧ (locked.inReset = false ∧ locked.mem.state = .idle
        ∧ (∀ f ∈ locked.play.fetches, f.progress = .issued)
        ∧ ∀ k, (locked.channel k).wantsRefill = false)
      ∧ (near.inReset = false ∧ near.mem.state = .idle
        ∧ (∀ f ∈ near.play.fetches, f.progress = .issued)
        ∧ (3 : Channel).val = (near.mem.pointer.val + 1) % 8 ∧ (near.channel 3).wantsRefill = true
        ∧ (near.channel 3).desc = some aDescriptor)
      ∧ (own.inReset = false ∧ own.mem.state = .idle ∧ (3 : Channel).val = (own.mem.pointer.val + 8) % 8
        ∧ (∀ x : Channel, x ≠ 3 → (own.channel x).wantsRefill = false)
        ∧ (own.channel 3).wantsRefill = true)) := by decide +kernel

/-- Channel 3 with a refill burst of `size` bytes in flight. -/
def refilling (m : MemState) (c : ChannelRecord) (size : Nat) : Part :=
  ({ loopPattern with mem := ⟨m, some ⟨.refill 3 7, 0x0012F8, size⟩, 3, .mib4, false, false, false, false, false⟩ }).setChannel 3 c

/-- Bursts of 1 and 16 bytes in READING and LOAN_PENDING; the burst's epoch and an older one; a queue that
reaches 16 bytes and one that does not; a ONCE pattern of 15 bytes. -/
theorem witness_RefillBurstsComplete :
    (let c (e : Half) (d : Descriptor) (next : Nat) (queued : Nat) : ChannelRecord :=
      { ChannelRecord.reset with
        state := .priming, desc := some d, epoch := e, nextFetch := next, inFlight := 1
        queue := List.replicate queued 1 }
    let ok (s : Part) (bytes : List Byte) := s.inReset = false
      ∧ s.mem.burst = some ⟨.refill 3 7, 0x0012F8, bytes.length⟩
    (ok (refilling .reading (c 7 aDescriptor 16 15) 1) [9]
        ∧ (refilling .reading (c 7 aDescriptor 16 15) 1).mem.state = .reading
        ∧ ((refilling .reading (c 7 aDescriptor 16 15) 1).channel 3).epoch = 7
        ∧ ((refilling .reading (c 7 aDescriptor 16 15) 1).channel 3).state = .priming
        ∧ 16 ≤ (((refilling .reading (c 7 aDescriptor 16 15) 1).channel 3).queue ++ [9]).length)
      ∧ (ok (refilling .loanPending (c 7 aDescriptor 15 14) 1) [9]
        ∧ (refilling .loanPending (c 7 aDescriptor 15 14) 1).mem.state = .loanPending
        ∧ ¬ 16 ≤ (((refilling .loanPending (c 7 aDescriptor 15 14) 1).channel 3).queue ++ [9]).length
        ∧ aDescriptor.mode ≠ .once)
      ∧ (ok (refilling .reading (c 7 ⟨.once, 0x10, 0x0012F8, 15, 0⟩ 15 14) 1) [9]
        ∧ 15 < 16 ∧ (15 : Addr).toNat = 15)
      ∧ (ok (refilling .reading (c 6 aDescriptor 16 0) 16) (List.replicate 16 9)
        ∧ ((refilling .reading (c 6 aDescriptor 16 0) 16).channel 3).epoch ≠ 7)) := by decide +kernel

/-- The burst of pattern 12's record in READING and in LOAN_PENDING, with two channels waiting on it. A record
whose pattern ends with the memory, and one that ends one byte beyond it. -/
theorem witness_DescriptorFetchesComplete :
    (let s (m : MemState) : Part := { loopPattern.setFetches [⟨12, [0, 1], .issued⟩] with
      mem := ⟨m, some ⟨.descriptor 12, 0x0000C0, 16⟩, 7, .mib4, false, false, false, false, false⟩ }
    (∀ m ∈ [MemState.reading, .loanPending], (s m).inReset = false
        ∧ (s m).mem.burst = some ⟨.descriptor 12, 0x0000C0, 16⟩ ∧ (s m).mem.state = m
        ∧ (∃ f ∈ (s m).play.fetches, f.pattern = 12 ∧ (1 : Channel) ∈ f.waiters)
        ∧ (∀ f ∈ (s m).play.fetches, (2 : Channel) ∉ f.waiters) ∧ (s m).mem.size = .mib4)
      ∧ (0x5C : Byte) = 0x5C ∧ (1 : Byte).toNat ≤ 1 ∧ 1 ≤ (0x28 : Addr).toNat
      ∧ (0x27 : Addr).toNat < (0x28 : Addr).toNat
      ∧ (0x3FFFD8 : Addr).toNat + (0x28 : Addr).toNat ≤ 0x400000
      ∧ ¬ (0x3FFFD9 : Addr).toNat + (0x28 : Addr).toNat ≤ 0x400000) := by decide +kernel

/-- A high level; no memory; IDLE; READING. -/
theorem witness_LoanRequestsAreGranted :
    (let low (s : Part) := s.inReset = false ∧ s.mem.loanReq = false
    (run .loanReqAssertion loopPattern).mem.loanReq = true
      ∧ (low locked ∧ locked.mem.size = .none)
      ∧ (low loopPattern ∧ loopPattern.mem.size ≠ .none ∧ loopPattern.mem.state = .idle)
      ∧ (low (run .arbiterChoice loopPattern) ∧ (run .arbiterChoice loopPattern).mem.size ≠ .none
        ∧ (run .arbiterChoice loopPattern).mem.state = .reading)) := by decide +kernel

/-- No memory; LOAN_PENDING; LOANED with a channel that depends on the memory and is held, before any burst and
after one. -/
theorem witness_LoanReleasesReturnTheMemory :
    (let high (s : Part) := s.inReset = false ∧ s.mem.loanReq = true
    let pending := run .loanReqAssertion (run .arbiterChoice loopPattern)
    let loaned := run .loanReqAssertion (holding loopPattern (.channel 3) 2)
    let later := run (.burstCompletion (List.replicate 8 1)) pending
    (high (run .loanReqAssertion locked) ∧ (run .loanReqAssertion locked).mem.size = .none)
      ∧ (high pending ∧ pending.mem.size ≠ .none ∧ pending.mem.state = .loanPending)
      ∧ (high loaned ∧ loaned.mem.size ≠ .none ∧ loaned.mem.state = .loaned ∧ loaned.mem.quiet = true
        ∧ (loaned.channel 3).state = .priming ∧ loaned.claims.holder (.channel 3) = some 2
        ∧ loaned.inLock 2 = true ∧ loaned.inLock 0 = true
        ∧ (loaned.chan 0).mask.getLsbD 4 = true)
      ∧ (high later ∧ later.mem.size ≠ .none ∧ later.mem.state = .loaned ∧ later.mem.quiet = false)) := by
  decide +kernel

/-! ### Witnesses: the laws -/

/-- Full stores and queues, a lapse timer at 2048, and a step that is taken. -/
theorem witness_EveryStepKeepsTheBounds :
    (let st : Store := ⟨List.replicate 4 aFrame, true, some aFrame, .two⟩
    let c : ControlChannel := { ControlChannel.reset with
      intake := [[1, 7], [1, 8]], replies := List.replicate 4 aReply, notices := List.replicate 8 aNotice }
    let s : Part := ({ lockAt (timed locked 2048) 3 .seek with
      inStores := Part.reset.inStores.set 0 st, outStores := Part.reset.outStores.set 0 st
      chans := Part.reset.chans.set 0 c }).setLapseTimer 3 2048
    s.bounded ∧ (∃ t, step ⟨s, []⟩ = .next t)) :=
  ⟨by decide +kernel, _, rfl⟩

/-- TRACKING port 0 with a candidate at count 63 and a start of its port waiting. -/
theorem witness_EveryStepKeepsTheReferenceLaws :
    (let s := reverting (some 1) 63 true
    s.referenceLawful ∧ ∃ t, step ⟨s, [.exchangeFrameStart (.frameStart 0)]⟩ = .next t) :=
  ⟨⟨by decide +kernel, fun n h => by cases h; decide, by decide +kernel⟩, _, rfl⟩

/-- A source that names only carried slots is lawful. -/
theorem sourceLawful_of (s : Part) (src : Source)
    (h : (match src with
      | .inbound q i => decide (s.carries q i)
      | .idle | .constant _ | .playback _ => true) = true) : s.sourceLawful src := by
  cases src with
  | inbound q i => exact of_decide_eq_true h
  | _ => trivial

/-- An entry, a holding and an armed list on the last slot of a port, and a start due. -/
theorem witness_EveryStepKeepsTheRouteLaws :
    (let s := listed (holding (mapped (timed locked 2048) 1 31 (.inbound 3 31) 1) (.slot 1 31) 0) 0
      ⟨[⟨1, 31, .inbound 2 1⟩], some .next⟩
    s.routesLawful ∧ ∃ t, step ⟨s, []⟩ = .next t) := by
  refine ⟨⟨fun p i => ⟨by revert p i; decide +kernel, sourceLawful_of _ _ (by revert p i; decide +kernel)⟩,
    by decide +kernel, fun m => ⟨by revert m; decide +kernel, by revert m; decide +kernel, ?_,
      by revert m; decide +kernel⟩, nofun⟩, _, rfl⟩
  have h : ∀ m : Port, ∀ e ∈ (StagingList.edits ((listed (holding (mapped (timed locked 2048) 1 31
      (.inbound 3 31) 1) (.slot 1 31) 0) 0 ⟨[⟨1, 31, .inbound 2 1⟩], some .next⟩).list m)),
      e = ⟨1, 31, .inbound 2 1⟩ ∧ m = 0 := by decide +kernel
  intro e he
  obtain ⟨rfl, rfl⟩ := h m e he
  exact ⟨by decide +kernel, by decide +kernel⟩

/-- A full queue of 16 bytes and a burst of 16 bytes in flight, whose completion waits. -/
theorem witness_EveryStepKeepsThePrefetchLaws :
    (let c : ChannelRecord := { ChannelRecord.reset with
      state := .playing, desc := some aDescriptor, epoch := 7, inFlight := 16, nextFetch := 16
      queue := List.replicate 16 1 }
    let s := refilling .reading c 16
    s.prefetchLawful ∧ ∃ t, step ⟨s, [.burstCompletion (List.replicate 16 9)]⟩ = .next t) := by
  refine ⟨⟨⟨by decide +kernel, fun b h => by cases h; decide⟩, by decide +kernel, by decide +kernel,
    by decide +kernel⟩, _, rfl⟩

/-- A descriptor burst whose completion waits, a second fetch behind it, two channels that wait and a full
cache. -/
theorem witness_EveryStepKeepsThePrefetchLaws_fetch :
    (let load (n : Pattern) : ChannelRecord := { ChannelRecord.reset with state := .loading, pattern := some n }
    let cache : List CacheEntry := [⟨1, aDescriptor⟩, ⟨2, aDescriptor⟩, ⟨3, aDescriptor⟩, ⟨4, aDescriptor⟩]
    let s : Part := { (((loopPattern.setChannel 0 (load 12)).setChannel 1 (load 7)).setCache cache).setFetches
        [⟨12, [0], .issued⟩, ⟨7, [1], .awaitingIssue⟩] with
      mem := ⟨.loanPending, some ⟨.descriptor 12, 0x0000C0, 16⟩, 7, .mib4, false, true, false, false, false⟩ }
    s.prefetchLawful ∧ ∃ t, step ⟨s, [.burstCompletion (List.replicate 16 9)]⟩ = .next t) := by
  refine ⟨⟨⟨by decide +kernel, fun b h => by cases h; decide⟩, by decide +kernel, by decide +kernel,
    by decide +kernel⟩, _, rfl⟩

end Sys2Proof.Test
end

section
/-! Chapter 2, CLAIM (R20 to R23): which bytes name which objects, and what the claim unit answers once they are
named. -/

namespace Sys2Proof.Machine

open Sys2Proof

/-! ### The fields of a request that pass R20 and R21 -/

/-- The fields of a CLAIM or RELEASE that pass R20 and R21, with the objects they name in ascending order: a range
of slots that a port carries, without its control slot; a playback channel; or timing. -/
def Part.lawfullyNames (s : Part) (fields : List Byte) (os : List ClaimObject) : Prop :=
  (∃ (q : Port) (first count : Byte), fields = [0x01, BitVec.ofNat 8 q.val, first, count]
      ∧ 1 ≤ count.toNat ∧ first.toNat + count.toNat ≤ (s.port q).profile.slots
      ∧ ¬ (first.toNat ≤ (s.port q).profile.control
        ∧ (s.port q).profile.control < first.toNat + count.toNat)
      ∧ os = ((List.finRange 64).filter fun i => decide (first.toNat ≤ i.val
          ∧ i.val < first.toNat + count.toNat)).map fun i => ClaimObject.slot q i)
    ∨ (∃ k : Channel, fields = [0x02, BitVec.ofNat 8 k.val] ∧ os = [.channel k])
    ∨ (fields = [0x03] ∧ os = [.timing])

theorem toNat_portByte (q : Port) : (BitVec.ofNat 8 q.val).toNat = q.val := by
  rw [BitVec.toNat_ofNat]
  omega

theorem toNat_channelByte (k : Channel) : (BitVec.ofNat 8 k.val).toNat = k.val := by
  rw [BitVec.toNat_ofNat]
  omega

/-- A port carries at most 64 slots: its profile says 32 or 64 (R89). -/
theorem Profile.slots_le (f : Profile) : f.slots ≤ 64 := by
  unfold Profile.slots SlotCount.toNat
  split <;> omega

section
variable {s : Part} {fields : List Byte} {os : List ClaimObject}

/-- The fields of a request that pass R20 and R21 are read as the objects they name. -/
theorem Part.namedObjects_of_lawfullyNames (h : s.lawfullyNames fields os) :
    s.namedObjects fields = .ok os := by
  obtain ⟨q, first, count, rfl, hcount, hslots, hcontrol, rfl⟩ | ⟨k, rfl, rfl⟩ | ⟨rfl, rfl⟩ := h
  · have h64 : first.toNat + count.toNat ≤ 64 := hslots.trans (Profile.slots_le _)
    rw [s.namedObjects_slots (toNat_portByte q) hcount hslots hcontrol, slotRange_eq_filter q _ _ h64]
  · exact s.namedObjects_channel (toNat_channelByte k)
  · exact s.namedObjects_timing

/-- Fields that pass R20 and R21 have the length of their class (R127). -/
theorem lengthFits_of_lawfullyNames (h : s.lawfullyNames fields os) :
    lengthFits .claim fields = true ∧ lengthFits .release fields = true := by
  obtain ⟨q, first, count, rfl, -⟩ | ⟨k, rfl, -⟩ | ⟨rfl, -⟩ := h <;> exact ⟨rfl, rfl⟩

/-! ### Free and contested objects (R22) -/

theorem ClaimUnit.isFree_eq (c : ClaimUnit) : c.isFree = fun o => decide (c.holder o = none) := by
  funext o
  unfold ClaimUnit.isFree
  cases c.holder o <;> simp

/-- An object is contested when a port other than the requester holds it. -/
theorem ClaimUnit.contested_iff (c : ClaimUnit) (p : Port) (o : ClaimObject) :
    c.contested p o = true ↔ ∃ h, c.holder o = some h ∧ h ≠ p := by
  unfold ClaimUnit.contested
  cases c.holder o <;> simp

theorem ClaimUnit.not_contested_iff (c : ClaimUnit) (p : Port) (o : ClaimObject) :
    ¬ c.contested p o = true ↔ c.holder o = none ∨ c.holder o = some p := by
  unfold ClaimUnit.contested
  cases c.holder o <;> simp

/-! ### The claim unit's answer (R22, R23) -/

/-- With no named object contested, every one of them goes to the requester, and the reply counts those that were
free. -/
theorem actClaim_granted {p : Port} (hn : s.namedObjects fields = .ok os)
    (hu : ∀ o ∈ os, s.claims.holder o = none ∨ s.claims.holder o = some p) :
    actClaim p fields s = ({ s with claims := s.claims.setHolders os (some p) } : Part).accept
      [byteOf (os.filter fun o => decide (s.claims.holder o = none)).length, 0, 0, 0, 0xFF] := by
  have none_contested : os.find? (s.claims.contested p) = none :=
    List.find?_eq_none.mpr fun o ho => (s.claims.not_contested_iff p o).mpr (hu o ho)
  unfold actClaim
  simp only [hn, none_contested, ClaimUnit.isFree_eq]

/-- A contested object with none before it is named with its holder, and the part stays as it was. -/
theorem actClaim_refused {p h : Port} {before after : List ClaimObject} {o : ClaimObject}
    (hn : s.namedObjects fields = .ok (before ++ o :: after))
    (hb : ∀ x ∈ before, s.claims.holder x = none ∨ s.claims.holder x = some p)
    (ho : s.claims.holder o = some h) (hp : h ≠ p) :
    actClaim p fields s = s.refuse .conflict (0 :: o.codes ++ [byteOf h.val]) := by
  have first_contested : (before ++ o :: after).find? (s.claims.contested p) = some o :=
    List.find?_eq_some_iff_append.mpr ⟨(s.claims.contested_iff p o).mpr ⟨h, ho, hp⟩, before, after, rfl,
      fun x hx => by simpa using (s.claims.not_contested_iff p x).mpr (hb x hx)⟩
  unfold actClaim
  simp only [hn, first_contested, ho, optPortCode]

end

/-- A CLAIM at a free channel is the claim unit's answer, put into one reply (R111). -/
theorem exec_claim {p : Port} {fields : List Byte} (tag : Byte) (s : State) (hr : s.part.ready p)
    (hl : lengthFits .claim fields = true) {a : Answer} (ha : actClaim p fields s.part = a) :
    exec (.claim p tag fields) s =
      .next { s with part := a.part.pushReply p ⟨0x82, tag, a.status, a.fields, a.marked⟩ } :=
  s.submit_fits p .claim tag fields hr hl ha

/-- Settles O38: the answer of the claim unit by whether a named object is contested, carried through `exec`. -/
theorem claimGrantsAllOrNothing : Obligations.ClaimGrantsAllOrNothing := by
  intro p tag fields os s hr (names : s.part.lawfullyNames fields os)
  have hn := Part.namedObjects_of_lawfullyNames names
  have hl := (lengthFits_of_lawfullyNames names).1
  refine ⟨fun uncontested => ?granted, fun before after o h split hb ho hp => ?refused⟩
  case granted =>
    refine ⟨_, exec_claim tag s hr hl (actClaim_granted hn uncontested), rfl, fun o ho => ?_, fun o ho => ?_,
      ClaimUnit.setHolders_lapse .., rfl⟩
    · exact (ClaimUnit.setHolders_holder ..).trans (if_pos ho)
    · exact (ClaimUnit.setHolders_holder ..).trans (if_neg ho)
  case refused =>
    subst split
    rw [exec_claim tag s hr hl (actClaim_refused hn hb ho hp)]
    cases o <;> rfl

end Sys2Proof.Machine
end

section
/-! Chapter 3, STAGE, DISCARD and APPLY (R36 to R41): the checks of each request in the order of its table, and
what it makes of the requester's list. -/

namespace Sys2Proof.Machine

open Sys2Proof

/-! ### Refused requests (R111, R124) -/

/-- A request of a ready channel that its owner refuses: the reply joins, and the part stays as it was. -/
theorem State.submit_refused (s : State) {p : Port} {k : RequestKind} (tag : Byte) {fields : List Byte}
    (hr : s.part.ready p) (hl : lengthFits k fields = true) {status : Status} {values : List Byte}
    (ha : act k p fields s.part = s.part.refuse status values) :
    s.submit p (k.code :: tag :: fields) = .next (s.replying p ⟨replyKind k, tag, status, values, false⟩) :=
  s.submit_fits p k tag fields hr hl ha

/-! ### Numbers that bytes name (R125, R129) -/

theorem portOf_eq_some_iff {b : Byte} {q : Port} : portOf b = some q ↔ b.toNat = q.val := by
  unfold portOf
  split <;> simp [Fin.ext_iff]; omega

theorem slotOf_eq_some_iff {b : Byte} {i : Slot} : slotOf b = some i ↔ b.toNat = i.val := by
  unfold slotOf
  split <;> simp [Fin.ext_iff]; omega

theorem channelOf_eq_none_iff {b : Byte} : channelOf b = none ↔ 7 < b.toNat := by
  unfold channelOf
  split <;> simp <;> omega

/-- A list is armed exactly while its target is present (R34). -/
theorem StagingList.armed_iff (l : StagingList) : l.armed = true ↔ l.target ≠ none := by
  unfold StagingList.armed
  exact Option.isSome_iff_ne_none

theorem Edit.sameTarget_iff (e f : Edit) : e.sameTarget f = true ↔ e.port = f.port ∧ e.slot = f.slot := by
  simp [Edit.sameTarget]

/-! ### Sources (R38) -/

section
variable (s : Part)

/-- The bytes of a source that R38 refuses: an inbound slot that is not carried or is a control slot, a channel
above 7, or a kind that is none of the four. -/
def Part.badSource (kind a b : Byte) : Prop :=
  (kind = 0x02 ∧ ∀ (x : Port) (y : Slot), a.toNat = x.val → b.toNat = y.val → ¬ s.carries x y)
    ∨ (kind = 0x03 ∧ 7 < a.toNat) ∨ 3 < kind.toNat

theorem Part.sourceOf_inbound_none_iff (a b : Byte) :
    s.sourceOf 2 a b = none
      ↔ ∀ (x : Port) (y : Slot), a.toNat = x.val → b.toNat = y.val → ¬ s.carries x y := by
  simp only [← portOf_eq_some_iff, ← slotOf_eq_some_iff]
  unfold Part.sourceOf
  cases portOf a <;> cases slotOf b <;> simp

theorem Part.sourceOf_playback_none_iff (a b : Byte) : s.sourceOf 3 a b = none ↔ 7 < a.toNat := by
  rw [← channelOf_eq_none_iff]
  exact Option.map_eq_none_iff

theorem Part.sourceOf_unknownKind {kind : Byte} (a b : Byte) (h : 3 < kind.toNat) :
    s.sourceOf kind a b = none := by
  have other : kind ≠ 0 ∧ kind ≠ 1 ∧ kind ≠ 2 ∧ kind ≠ 3 := by
    refine ⟨?_, ?_, ?_, ?_⟩ <;> (rintro rfl; exact absurd h (by decide))
  obtain ⟨h0, h1, h2, h3⟩ := other
  simp only [Part.sourceOf, if_neg h0, if_neg h1, if_neg h2, if_neg h3]

/-- The kinds of source in R38's table. -/
theorem sourceKind_cases (kind : Byte) :
    kind = 0 ∨ kind = 1 ∨ kind = 2 ∨ kind = 3 ∨ 3 < kind.toNat := by
  bv_omega

/-- R38: a source is read unless its bytes are refused. -/
theorem Part.sourceOf_none_iff (kind a b : Byte) : s.sourceOf kind a b = none ↔ s.badSource kind a b := by
  obtain rfl | rfl | rfl | rfl | unknown := sourceKind_cases kind
  case inr.inr.inl => exact (s.sourceOf_inbound_none_iff a b).trans (by simp [Part.badSource])
  case inr.inr.inr.inl => exact (s.sourceOf_playback_none_iff a b).trans (by simp [Part.badSource])
  case inr.inr.inr.inr => exact iff_of_true (s.sourceOf_unknownKind a b unknown) (.inr (.inr unknown))
  all_goals simp [Part.sourceOf, Part.badSource]

/-- A source that R38 does not refuse is read. -/
theorem Part.sourceOf_of_not_badSource {kind a b : Byte} (h : ¬ s.badSource kind a b) :
    ∃ src, s.sourceOf kind a b = some src :=
  Option.ne_none_iff_exists'.mp (mt (s.sourceOf_none_iff kind a b).mp h)

end

/-! ### The checks of STAGE (R36) -/

/-! One lemma for each row of R36's table: the checks of the rows above pass, and the check of this row fails. -/

theorem actStage_badPort (p : Port) {port : Byte} (slot kind a b : Byte) (s : Part) (h : 3 < port.toNat) :
    actStage p [port, slot, kind, a, b] s = s.refuse .badPort [byteOf (s.list p).edits.length] := by
  simp only [actStage, portOf_none h]

section
variable (p : Port) {q : Port} {port slot kind a b : Byte} {s : Part} (hq : port.toNat = q.val)
include hq

theorem actStage_badSlot (kind a b : Byte) (h : (s.port q).profile.slots ≤ slot.toNat) :
    actStage p [port, slot, kind, a, b] s = s.refuse .badSlot [byteOf (s.list p).edits.length] := by
  simp only [actStage, portOf_of_toNat hq]
  cases hi : slotOf slot with
  | none => rfl
  | some i => exact if_pos (slotOf_eq_some_iff.mp hi ▸ h)

variable {i : Slot} (hi : slot.toNat = i.val)
include hi

theorem actStage_reservedSlot (kind a b : Byte) (hslots : i.val < (s.port q).profile.slots)
    (h : i.val = (s.port q).profile.control) :
    actStage p [port, slot, kind, a, b] s = s.refuse .reservedSlot [byteOf (s.list p).edits.length] := by
  simp only [actStage, portOf_of_toNat hq, slotOf_of_toNat hi, if_neg hslots.not_ge, if_pos h]

variable (carried : s.carries q i)
include carried

theorem actStage_notHolder (kind a b : Byte) (h : s.claims.holder (.slot q i) ≠ some p) :
    actStage p [port, slot, kind, a, b] s = s.refuse .notHolder [byteOf (s.list p).edits.length] := by
  obtain ⟨hslots, hcontrol⟩ := carried
  simp only [actStage, portOf_of_toNat hq, slotOf_of_toNat hi, if_neg hslots.not_ge, if_neg hcontrol, if_pos h]

variable (held : s.claims.holder (.slot q i) = some p)
include held

theorem actStage_badSource (h : s.badSource kind a b) :
    actStage p [port, slot, kind, a, b] s = s.refuse .badSource [byteOf (s.list p).edits.length] := by
  obtain ⟨hslots, hcontrol⟩ := carried
  simp only [actStage, portOf_of_toNat hq, slotOf_of_toNat hi, if_neg hslots.not_ge, if_neg hcontrol,
    if_neg (not_not.mpr held), (s.sourceOf_none_iff kind a b).mpr h]

/-- A STAGE that passes the checks on its target and its source: what is left are those on the list. -/
theorem actStage_lawful {src : Source} (hsrc : s.sourceOf kind a b = some src) :
    actStage p [port, slot, kind, a, b] s =
      if (s.list p).armed then s.refuse .armed [byteOf (s.list p).edits.length]
      else if 16 ≤ (s.list p).edits.length && !((s.list p).edits.any fun g => g.sameTarget ⟨q, i, src⟩) then
        s.refuse .listFull [byteOf (s.list p).edits.length]
      else ({ s with lists := s.lists.set p ((s.list p).withEdit ⟨q, i, src⟩) } : Part).accept
        [byteOf ((s.list p).withEdit ⟨q, i, src⟩).edits.length] := by
  obtain ⟨hslots, hcontrol⟩ := carried
  simp only [actStage, portOf_of_toNat hq, slotOf_of_toNat hi, if_neg hslots.not_ge, if_neg hcontrol,
    if_neg (not_not.mpr held), hsrc]

variable (source : ¬ s.badSource kind a b)
include source

theorem actStage_armed (h : (s.list p).target ≠ none) :
    actStage p [port, slot, kind, a, b] s = s.refuse .armed [byteOf (s.list p).edits.length] := by
  obtain ⟨src, hsrc⟩ := s.sourceOf_of_not_badSource source
  rw [actStage_lawful p hq hi carried held hsrc, if_pos ((s.list p).armed_iff.mpr h)]

theorem actStage_listFull (unarmed : (s.list p).target = none) (full : 16 ≤ (s.list p).edits.length)
    (fresh : ∀ e ∈ (s.list p).edits, ¬ (e.port = q ∧ e.slot = i)) :
    actStage p [port, slot, kind, a, b] s = s.refuse .listFull [byteOf (s.list p).edits.length] := by
  obtain ⟨src, hsrc⟩ := s.sourceOf_of_not_badSource source
  have none_here : ((s.list p).edits.any fun g => g.sameTarget ⟨q, i, src⟩) = false :=
    List.any_eq_false.mpr fun e he => mt (e.sameTarget_iff _).mp (fresh e he)
  rw [actStage_lawful p hq hi carried held hsrc, if_neg (mt (s.list p).armed_iff.mp (not_not.mpr unarmed)),
    if_pos (by simp [full, none_here])]

end

/-- A STAGE at a free channel that the switchover unit refuses with the length of the list (R36, R37). -/
theorem exec_stage_refused {p : Port} (tag : Byte) {port slot kind a b : Byte} (s : State) (hr : s.part.ready p)
    {status : Status} (ha : actStage p [port, slot, kind, a, b] s.part
      = s.part.refuse status [byteOf (s.part.list p).edits.length]) :
    exec (.stage p tag [port, slot, kind, a, b]) s = .next (s.replying p
      ⟨0x84, tag, status, [BitVec.ofNat 8 (s.part.list p).edits.length], false⟩) :=
  s.submit_refused (k := .stage) tag hr rfl ha

/-- Settles O42: each row of R36's table in turn, carried through `exec`. -/
theorem stageIsCheckedInOrder : Obligations.StageIsCheckedInOrder := by
  intro p tag port slot kind a b s hr
  refine ⟨fun h => exec_stage_refused tag s hr (actStage_badPort p slot kind a b s.part h), fun q hq =>
    ⟨fun h => exec_stage_refused tag s hr (actStage_badSlot p hq kind a b h), fun i hi hslots =>
    ⟨fun h => exec_stage_refused tag s hr (actStage_reservedSlot p hq hi kind a b hslots h), fun carried =>
    ⟨fun h => exec_stage_refused tag s hr (actStage_notHolder p hq hi carried kind a b h), fun held =>
    ⟨?badSource, ?armed, ?listFull⟩⟩⟩⟩⟩
  case badSource => exact fun h => exec_stage_refused tag s hr (actStage_badSource p hq hi carried held h)
  case armed =>
    exact fun source h => exec_stage_refused tag s hr (actStage_armed p hq hi carried held source h)
  case listFull =>
    exact fun source unarmed full fresh => exec_stage_refused tag s hr
      (actStage_listFull p hq hi carried held source unarmed full fresh)

/-! ### DISCARD (R39) -/

/-- Settles O43: a DISCARD takes no fields and passes no check, and its owner's one answer is carried through
`exec`. -/
theorem discardEmptiesTheList : Obligations.DiscardEmptiesTheList := by
  intro p tag s hr
  exact s.submit_fits p .discard tag [] hr rfl rfl

/-! ### APPLY (R40, R41) -/

/-- The bytes of an APPLY's reply: the due frame, the most significant byte first, and the edit count. -/
theorem Part.applyFields_eq (s : Part) (l : StagingList) :
    s.applyFields l = [BitVec.ofNat 8 ((s.dueFrame l).toNat / 256), BitVec.ofNat 8 (s.dueFrame l).toNat]
      ++ [BitVec.ofNat 8 l.edits.length] := by
  rw [Part.applyFields, be16_eq, byteOf]

/-- The mode bytes 00H and 01H are NEXT and AT (R40, R125). -/
theorem applyMode_known_iff (mode : Byte) : mode.toNat ≤ 1 ↔ ¬ (mode ≠ 0 ∧ mode ≠ 1) := by
  bv_omega

section
variable (p : Port) {mode : Byte} (hi lo : Byte) {s : Part}

theorem actApply_badValue (h : 1 < mode.toNat) :
    actApply p [mode, hi, lo] s = s.refuse .badValue [0, 0, 0] := by
  simp only [actApply, if_pos (not_not.mp (mt (applyMode_known_iff mode).mpr h.not_ge))]

variable (known : mode.toNat ≤ 1)
include known

theorem actApply_empty (h : (s.list p).edits = []) :
    actApply p [mode, hi, lo] s = s.refuse .empty [0, 0, 0] := by
  simp only [actApply, if_neg ((applyMode_known_iff mode).mp known), if_pos (List.isEmpty_iff.mpr h)]

variable (nonempty : (s.list p).edits ≠ [])
include nonempty

theorem actApply_armed (h : (s.list p).target ≠ none) :
    actApply p [mode, hi, lo] s = s.refuse .armed (s.applyFields (s.list p)) := by
  simp only [actApply, if_neg ((applyMode_known_iff mode).mp known), if_neg (mt List.isEmpty_iff.mp nonempty),
    if_pos ((s.list p).armed_iff.mpr h)]

/-- An APPLY that passes the checks of R40 arms the list: by its mode, and with AT by the target rule of R41. -/
theorem actApply_passes (h : (s.list p).target = none) :
    actApply p [mode, hi, lo] s =
      if mode = 0 then s.arm p .next .ok
      else if 1 ≤ ((hi ++ lo : Half) - s.exch.counter).toNat
          ∧ ((hi ++ lo : Half) - s.exch.counter).toNat ≤ 32767 then s.arm p (.frame (hi ++ lo)) .ok
      else s.arm p .next .late := by
  simp only [actApply, if_neg ((applyMode_known_iff mode).mp known), if_neg (mt List.isEmpty_iff.mp nonempty),
    if_neg (mt (s.list p).armed_iff.mp (not_not.mpr h))]
  rfl

end

section
variable {p : Port} (tag : Byte) {mode hi lo : Byte} (s : State) (hr : s.part.ready p)
include hr

/-- An APPLY at a free channel that the switchover unit refuses. -/
theorem exec_apply_refused {status : Status} {fields : List Byte}
    (ha : actApply p [mode, hi, lo] s.part = s.part.refuse status fields) :
    exec (.apply p tag [mode, hi, lo]) s = .next (s.replying p ⟨0x86, tag, status, fields, false⟩) :=
  s.submit_refused (k := .apply) tag hr rfl ha

/-- An APPLY of an armed list is answered with the due frame and the edit count of that list (R40). -/
theorem exec_apply_alreadyArmed (known : mode.toNat ≤ 1) (nonempty : (s.part.list p).edits ≠ []) {x : Target}
    (h : (s.part.list p).target = some x) {due : Half} (hd : s.part.dueFrame (s.part.list p) = due) :
    exec (.apply p tag [mode, hi, lo]) s = .next (s.replying p ⟨0x86, tag, .armed,
      [BitVec.ofNat 8 (due.toNat / 256), BitVec.ofNat 8 due.toNat]
        ++ [BitVec.ofNat 8 (s.part.list p).edits.length], false⟩) := by
  subst hd
  rw [← Part.applyFields_eq]
  exact exec_apply_refused tag s hr (actApply_armed p hi lo known nonempty (by simp [h]))

/-- An APPLY that arms the list is answered with the due frame of its target and the edit count (R40). -/
theorem exec_apply_arms {x : Target} {status : Status} {due : Half}
    (ha : actApply p [mode, hi, lo] s.part = s.part.arm p x status)
    (hd : s.part.dueFrame ⟨(s.part.list p).edits, some x⟩ = due) :
    exec (.apply p tag [mode, hi, lo]) s = .next (State.replying
      { s with part := { s.part with lists := s.part.lists.set p ⟨(s.part.list p).edits, some x⟩ } } p
      ⟨0x86, tag, status, [BitVec.ofNat 8 (due.toNat / 256), BitVec.ofNat 8 due.toNat]
        ++ [BitVec.ofNat 8 (s.part.list p).edits.length], false⟩) := by
  subst hd
  rw [← Part.applyFields_eq s.part ⟨(s.part.list p).edits, some x⟩]
  exact s.submit_fits p .apply tag [mode, hi, lo] hr rfl ha

end

/-- Settles O44: the checks of R40 in their order, then the three ways of arming the list. -/
theorem applyArmsTheList : Obligations.ApplyArmsTheList := by
  intro p tag mode hi lo s hr
  refine ⟨?badValue, ?empty, ?armedNext, ?armedFrame, ?next, ?ahead, ?late⟩
  case badValue => exact fun h => exec_apply_refused tag s hr (actApply_badValue p hi lo h)
  case empty => exact fun known h => exec_apply_refused tag s hr (actApply_empty p hi lo known h)
  case armedNext =>
    intro known nonempty h
    exact exec_apply_alreadyArmed tag s hr known nonempty h (by simp only [Part.dueFrame, h, Part.frameNumber])
  case armedFrame =>
    intro n known nonempty h
    exact exec_apply_alreadyArmed tag s hr known nonempty h (by simp only [Part.dueFrame, h])
  case next =>
    rintro rfl nonempty unarmed
    refine exec_apply_arms tag s hr ?_ rfl
    rw [actApply_passes p hi lo (by decide) nonempty unarmed, if_pos rfl]
  case ahead =>
    rintro rfl nonempty unarmed low high
    refine exec_apply_arms tag s hr ?_ rfl
    rw [actApply_passes p hi lo (by decide) nonempty unarmed, if_neg (by decide), if_pos ⟨low, high⟩]
  case late =>
    rintro rfl nonempty unarmed passed
    refine exec_apply_arms tag s hr ?_ rfl
    rw [actApply_passes p hi lo (by decide) nonempty unarmed, if_neg (by decide), if_neg (by omega)]

end Sys2Proof.Machine
end

section
/-! Chapter 5, selection and qualification (R73, R75, R84): the part as selection finds it at an exchange frame start,
what selection makes of it in each row of its table, and whom a REFERENCE notice reaches. -/

namespace Sys2Proof.Machine

open Sys2Proof

section
variable (s : Part) (cause : StartCause)

/-! ### The part as selection finds it (R7, R70) -/

/-- The part at an exchange frame start with everything done but selection. -/
def Part.beforeSelection : Part :=
  (s.switched.writeFrames s.yields s.playbackBytes).countLapses.setRef (s.ref.started cause)

/-- Selection is the last share of an exchange frame start. -/
theorem Part.frameStart_eq_select : s.frameStart cause = (s.beforeSelection cause).select := by
  have ref_kept : (s.switched.writeFrames s.yields s.playbackBytes).countLapses.ref = s.ref := by
    simp [Part.switched]
  rw [Part.frameStart_def, Part.referenceShare, ref_kept, Part.beforeSelection]

@[simp] theorem Part.beforeSelection_ref : (s.beforeSelection cause).ref = s.ref.started cause := rfl

@[simp] theorem Part.select_exch : s.select.exch = s.exch := by rw [Part.select_eq]

@[simp] theorem Part.select_port (p : Port) : s.select.port p = s.port p := by
  rw [Part.select_eq]
  rfl

@[simp] theorem Part.beforeSelection_lock (p : Port) :
    ((s.beforeSelection cause).port p).lock = (s.port p).lock := by
  rw [← Part.select_port, ← Part.frameStart_eq_select, Part.frameStart_port]

/-- The counter stands one higher than before the start (R6). -/
@[simp] theorem Part.beforeSelection_frameNumber :
    (s.beforeSelection cause).frameNumber = s.exch.counter + 1 := by
  rw [Part.frameNumber, ← Part.select_exch, ← Part.frameStart_eq_select, Part.frameStart_exch, Exchange.apply]
  split <;> rfl

@[simp] theorem Part.beforeSelection_inLock (p : Port) :
    (s.beforeSelection cause).inLock p = s.inLock p := by
  simp [Part.inLock]

/-- A write of the reference record raises nothing. -/
theorem Part.notified.setRef {s t : Part} (h : s.notified t) (r : RefUnit) : s.notified (t.setRef r) := h

/-- Up to selection the channels changed by notices alone. -/
theorem Part.beforeSelection_notified : s.notified (s.beforeSelection cause) := by
  have written : s.notified (s.switched.writeFrames s.yields s.playbackBytes) :=
    Part.notified_trans (Part.switched_inLock s) (Part.switched_notified s) (Part.writeFrames_notified _ _ _)
  have inLock : ∀ p, (s.switched.writeFrames s.yields s.playbackBytes).inLock p = s.inLock p := by simp
  exact (Part.notified_trans inLock written (Part.countLapses_notified _)).setRef _

/-- The record as a start of the local frame timer leaves it before selection: nothing is measured (R72). -/
theorem RefUnit.started_localTimer (r : RefUnit) :
    r.started .localTimer = { r with timer := 0, lastStart := .localTimer, realigning := false } := rfl

/-- An exchange frame start that is due is taken while the part runs (R70). -/
theorem exec_exchangeFrameStart_due {s : State} {cause : StartCause} (running : s.part.inReset = false)
    (due : s.part.startDue cause = true) :
    exec (.exchangeFrameStart cause) s = .next { s with part := (s.part.beforeSelection cause).select } := by
  simp only [exec, execExchangeFrameStart, State.answer, Part.whenRunning, running, due, if_true,
    Bool.false_eq_true, if_false, Part.frameStart_eq_select]

end

/-! ### The rows of selection (R73, R75) -/

section
variable {s : Part} {h : Port}

/-- In FREE, HOLDOVER and QUALIFY the whole list is searched. -/
theorem Part.found_of_not_tracking (hm : s.ref.mode ≠ .tracking) :
    s.found = s.ref.list.find? fun p => decide ((s.port p).lock = .locked) := by
  unfold Part.found
  split
  case h_1 => contradiction
  case h_2 | h_3 | h_4 => rfl

theorem Part.select_of_not_found (hm : s.ref.mode ≠ .tracking) (hf : s.found = none) : s.select = s := by
  simp only [Part.select, hf]
  split
  case h_1 => contradiction
  case h_2 | h_3 | h_4 => rfl

/-- Another port than the candidate is found. -/
theorem Part.select_other (hf : s.found = some h) (hc : s.ref.candidate ≠ some h) :
    s.select = s.choose h := by
  simp only [Part.select, hf, if_neg hc]

/-- The candidate is found again, and its count stays below 64. -/
theorem Part.select_candidate (hf : s.found = some h) (hc : s.ref.candidate = some h)
    (short : s.ref.count + 1 ≠ 64) :
    s.select = s.setRef { s.ref with count := s.ref.count + 1 } := by
  simp only [Part.select, hf, if_pos hc, qualifyEnd, short, if_false]

/-- The candidate is found for the 64th time. -/
theorem Part.select_qualified (hf : s.found = some h) (hc : s.ref.candidate = some h)
    (full : s.ref.count + 1 = 64) : s.select = s.switchTo h := by
  simp only [Part.select, hf, if_pos hc, qualifyEnd, full, if_true]

/-- After a choice in FREE, HOLDOVER or QUALIFY the mode is QUALIFY, with the new candidate at count 0. -/
theorem Part.choose_ref (hm : s.ref.mode ≠ .tracking) :
    (s.choose h).ref = { s.ref with mode := .qualify, candidate := some h, count := 0 } := by
  unfold Part.choose
  split
  case h_1 | h_2 => rfl
  case h_3 inQualify => rw [← inQualify, Part.setRef_ref]
  case h_4 => contradiction

/-- A choice in FREE or HOLDOVER raises CHOSEN. -/
theorem Part.choose_raises (hm : s.ref.mode ≠ .tracking) (hq : s.ref.mode ≠ .qualify) :
    s.choose h = (s.setRef { s.ref with
      mode := .qualify, candidate := some h, count := 0 }).raiseReference .chosen := by
  unfold Part.choose
  split
  case h_1 | h_2 => rfl
  case h_3 | h_4 => contradiction

end

/-! ### Whom a REFERENCE notice reaches (R84, R114) -/

/-- Notices leave the mask of a channel as it is. -/
theorem Part.mask_of_notified {s t : Part} (h : s.notified t) (p : Port) :
    (t.chan p).mask = (s.chan p).mask := by
  rw [(Part.onlyNoticesJoined_of_notified h p).1]

/-- REFERENCE reaches a port in lock whose mask includes it, with the record just written, where the channels
changed by notices alone before. -/
theorem Part.reached_setRef_raiseReference {s t : Part} {p : Port} (before : s.notified t)
    (locked : t.inLock p = true) (masked : (s.chan p).mask.getLsbD 2 = true) (r : RefUnit) (reason : RefReason) :
    s.reached ((t.setRef r).raiseReference reason) p
      (.reference r.mode r.tracked r.candidate reason r.held t.frameNumber) := by
  refine Part.reached_of_raise (before.setRef r) ?_ (Part.notified_refl _)
  simp [Part.admits, Notice.maskBit, Notice.concerned, locked, Part.mask_of_notified before p, masked]

/-- Settles O13: selection on the part as a start of the local frame timer leaves it, by the row of R73's table. -/
theorem selectionPicksTheFirstLockedPort : Obligations.SelectionPicksTheFirstLockedPort := by
  intro s running untracked due
  refine ⟨_, exec_exchangeFrameStart_due running due, ?_⟩
  have record := (s.part.beforeSelection_ref .localTimer).trans s.part.ref.started_localTimer
  have number := s.part.beforeSelection_frameNumber .localTimer
  have notified := s.part.beforeSelection_notified .localTimer
  have inLock := s.part.beforeSelection_inLock .localTimer
  have lock := s.part.beforeSelection_lock .localTimer
  generalize s.part.beforeSelection .localTimer = v at record number notified inLock lock ⊢
  have untracked_before : v.ref.mode ≠ .tracking := by rwa [record]
  have found_before : v.found = s.part.ref.list.find? fun p => decide ((s.part.port p).lock = .locked) := by
    simp only [Part.found_of_not_tracking untracked_before, record, lock]
  have candidate_before : v.ref.candidate = s.part.ref.candidate := by rw [record]
  have count_before : v.ref.count = s.part.ref.count := by rw [record]
  dsimp only
  rw [← found_before, ← candidate_before, ← count_before]
  refine ⟨fun hf _ => ?nothing, fun h hf hc => ?other, fun h hf hc short => ?candidate,
    fun h hf hc full => ?qualified⟩
  case nothing => rw [Part.select_of_not_found untracked_before hf, record]
  case other =>
    rw [Part.select_other hf hc]
    refine ⟨by rw [Part.choose_ref untracked_before, record], fun unqualified p hp masked => ?_⟩
    rw [Part.choose_raises untracked_before (by rwa [record]), record, ← number]
    exact Part.reached_setRef_raiseReference notified ((inLock p).trans hp) masked _ .chosen
  case candidate => rw [Part.select_candidate hf hc short, Part.setRef_ref, record]
  case qualified =>
    rw [Part.select_qualified hf hc full, Part.switchTo, record, ← number]
    exact ⟨rfl, fun p hp masked =>
      Part.reached_setRef_raiseReference notified ((inLock p).trans hp) masked _ .qualified⟩

end Sys2Proof.Machine
end

section
/-! Chapter 7, notices (R114, R115): which ports a raised notice is admitted to, and what an admitted channel does
with it. -/

namespace Sys2Proof.Machine

open Sys2Proof

/-! ### Whom a notice is admitted to (R114) -/

section
variable {s : Part} {n : Notice} {p : Port}

/-- A broadcast notice goes to the ports in lock whose mask includes its kind, but for the port concerned. -/
theorem Part.admits_broadcast {bit : Nat} (broadcast : n.maskBit = some bit) :
    s.admits n p = true ↔
      s.inLock p = true ∧ n.concerned ≠ some p ∧ (s.chan p).mask.getLsbD bit = true := by
  simp only [Part.admits, broadcast, Bool.and_eq_true, bne_iff_ne]

/-- A directed notice goes to its one port, if that port is in lock. -/
theorem Part.admits_directed (directed : n.maskBit = none) :
    s.admits n p = true ↔ s.inLock p = true ∧ s.directedTo n = some p := by
  simp only [Part.admits, directed, Bool.and_eq_true, beq_iff_eq]

/-- Raising a notice changes the control channels alone. -/
theorem Part.raise_eq (s : Part) (n : Notice) : s.raise n = { s with chans := (s.raise n).chans } := rfl

theorem Part.raise_chan_admitted (h : s.admits n p = true) : (s.raise n).chan p = (s.chan p).enqueue n := by
  rw [Part.raise_chan, if_pos h]

theorem Part.raise_chan_not_admitted (h : ¬ s.admits n p = true) : (s.raise n).chan p = s.chan p := by
  rw [Part.raise_chan, if_neg h]

end

/-! ### What an admitted channel does with it (R115) -/

/-- At a queue with room the notice joins with the tally, which starts again at 0. -/
theorem ControlChannel.enqueue_room {c : ControlChannel} (n : Notice) (room : c.notices.length < 8) :
    c.enqueue n = { c with notices := c.notices ++ [⟨n, c.lost⟩], lost := 0 } := if_pos room

/-- At a full queue the notice is counted as lost, up to 255. -/
theorem ControlChannel.enqueue_full {c : ControlChannel} (n : Notice) (full : 8 ≤ c.notices.length) :
    c.enqueue n = { c with lost := if c.lost = 255 then 255 else c.lost + 1 } := if_neg (Nat.not_lt.mpr full)

/-- Settles O32: the table of R114 is who is admitted, sort by sort; what follows is R115. -/
theorem noticesAreRouted : Obligations.NoticesAreRouted := by
  intro n s p wanted
  have admitted : s.admits n p = true ↔ s.inLock p = true ∧ wanted := by
    cases n with
    | portState | slip | claimsFreed =>
      rw [Part.admits_broadcast rfl, Notice.concerned, Ne, Option.some_inj]
    | reference | memory =>
      rw [Part.admits_broadcast rfl, Notice.concerned, and_iff_right (Option.some_ne_none p).symm]
    | applied | applyCancelled => rw [Part.admits_directed rfl, Part.directedTo, Option.some_inj]
    | playback => rw [Part.admits_directed rfl, Part.directedTo]
  refine ⟨s.raise_eq n, fun unrouted => ?notAdmitted, fun locked table room => ?joins,
    fun locked table full => ?counted⟩
  case notAdmitted => exact Part.raise_chan_not_admitted (mt admitted.mp unrouted)
  case joins =>
    rw [Part.raise_chan_admitted (admitted.mpr ⟨locked, table⟩), ControlChannel.enqueue_room n room]
  case counted =>
    rw [Part.raise_chan_admitted (admitted.mpr ⟨locked, table⟩), ControlChannel.enqueue_full n full]

end Sys2Proof.Machine
end

section
/-! Chapter 8, the message catalogue: what PROBE, READ_ROUTE, READ_REFERENCE and READ_CHANNEL answer (8.6), what
NOTICE_MASK does, and the checks that the channel itself makes of a request, on its kind and its length (8.2). -/

namespace Sys2Proof.Machine

open Sys2Proof

/-! ### Accepted requests that change nothing (R111) -/

/-- A request of a ready channel that its owner answers OK with the part as it was: the reply joins, no more. -/
theorem State.submit_accepted (s : State) {p : Port} {k : RequestKind} (tag : Byte) {fields : List Byte}
    (hr : s.part.ready p) (hl : lengthFits k fields = true) {values : List Byte}
    (ha : act k p fields s.part = s.part.accept values) :
    s.submit p (k.code :: tag :: fields) = .next (s.replying p ⟨replyKind k, tag, .ok, values, false⟩) :=
  s.submit_fits p k tag fields hr hl ha

/-! ### PROBE (R132) -/

section
variable (s : Part) {l : StagingList}

/-! The list state and the due frame of PROBE, by the target of the list (R125, R130). -/

theorem Part.listStanding_unarmed (h : l.target = none) : l.code :: be16 (s.dueFrame l) = [0, 0, 0] := by
  simp only [StagingList.code, Part.dueFrame, h]
  rfl

theorem Part.listStanding_next (h : l.target = some .next) :
    l.code :: be16 (s.dueFrame l) = 1 :: be16 (s.exch.counter + 1) := by
  simp only [StagingList.code, Part.dueFrame, h, Part.frameNumber]

theorem Part.listStanding_frame {n : Half} (h : l.target = some (.frame n)) :
    l.code :: be16 (s.dueFrame l) = 2 :: be16 n := by
  simp only [StagingList.code, Part.dueFrame, h]

/-- A PROBE passes no check: it is answered with the part, the requester, the exchange, the holding and the list. -/
theorem actProbe_eq (p : Port) (fields : List Byte) :
    actProbe p fields s = s.accept ([0x04, 0x24, 0x01, byteOf p.val]
      ++ be16 s.exch.counter ++ be16 s.exch.generation ++ be16Nat (s.claims.holding p).length
      ++ [byteOf (s.list p).edits.length] ++ (s.list p).code :: be16 (s.dueFrame (s.list p))) := by
  simp [actProbe]

end

/-- Settles O33: the fields of the one answer, with the standing of the list by its target. -/
theorem probeReportsTheStanding : Obligations.ProbeReportsTheStanding := by
  intro p tag s hr
  refine (s.submit_accepted (k := .probe) tag hr rfl (actProbe_eq s.part p [])).trans ?_
  cases target : (s.part.list p).target with
  | none => rw [Part.listStanding_unarmed _ target, be16Nat, funext be16_eq]; rfl
  | some t =>
    cases t with
    | next => rw [Part.listStanding_next _ target, be16Nat, funext be16_eq]; rfl
    | frame n => rw [Part.listStanding_frame _ target, be16Nat, funext be16_eq]; rfl

/-! ### READ_ROUTE (R133) -/

section
variable (p : Port) {port slot : Byte} {s : Part}

theorem actReadRoute_badPort (slot : Byte) (h : 3 < port.toNat) :
    actReadRoute p [port, slot] s = s.refuse .badPort routeRefusal := by
  simp only [actReadRoute, portOf_none h]

variable {q : Port} (hq : port.toNat = q.val)
include hq

theorem actReadRoute_badSlot (h : 63 < slot.toNat) :
    actReadRoute p [port, slot] s = s.refuse .badSlot routeRefusal := by
  simp only [actReadRoute, portOf_of_toNat hq, slotOf_none h]

/-- A READ_ROUTE that names one of the 256 entries returns its bytes with the entry and the entry's holder. -/
theorem actReadRoute_entry {i : Slot} (hi : slot.toNat = i.val) :
    actReadRoute p [port, slot] s = s.accept ([port, slot] ++ (s.entry q i).source.codes
      ++ be16 (s.entry q i).setGen ++ [optPortCode (s.claims.holder (.slot q i))]) := by
  simp only [actReadRoute, portOf_of_toNat hq, slotOf_of_toNat hi, byteOf_of_toNat hq,
    byteOf_of_toNat hi]

end

/-- Settles O34: the two checks in their order, then the entry. -/
theorem readRouteReportsTheEntry : Obligations.ReadRouteReportsTheEntry := by
  intro p tag port slot s hr
  refine ⟨fun h => ?badPort, fun hport h => ?badSlot, fun q i hq hi => ?entry⟩
  case badPort => exact s.submit_refused (k := .readRoute) tag hr rfl (actReadRoute_badPort p slot h)
  case badSlot =>
    have hq : port.toNat = (⟨port.toNat, Nat.lt_succ_of_le hport⟩ : Port).val := rfl
    exact s.submit_refused (k := .readRoute) tag hr rfl (actReadRoute_badSlot p hq h)
  case entry =>
    have answer := actReadRoute_entry (s := s.part) p hq hi
    rw [be16_eq] at answer
    exact s.submit_accepted (k := .readRoute) tag hr rfl answer

/-! ### READ_REFERENCE (R86, R135) -/

theorem listBytes_length (ports : List Port) : (listBytes ports).length = 4 := by
  simp [listBytes]

/-- Each of the four port bytes: the port at that place of the list, or FFH beyond its end. -/
theorem listBytes_getElem? (ports : List Port) {j : Nat} (hj : j < 4) :
    (listBytes ports)[j]? = some (optPortCode ports[j]?) := by
  rw [listBytes, List.getElem?_take_of_lt hj]
  by_cases inside : j < ports.length
  · rw [List.getElem?_append_left (by simpa using inside)]
    simp [inside, optPortCode]
  · rw [List.getElem?_append_right (by simpa using inside),
      List.getElem?_replicate_of_lt (by omega), List.getElem?_eq_none (by omega), optPortCode]

/-- The qualify count that READ_REFERENCE returns: 0 when no candidate is present (R135). -/
theorem RefUnit.qualifyCount_eq (r : RefUnit) :
    (if r.candidate.isSome then byteOf r.count else 0) = if r.candidate = none then 0 else byteOf r.count := by
  cases r.candidate <;> rfl

/-- Settles O36: the fields of the one answer, with the list's four bytes place by place. -/
theorem readReferenceReportsTheRecord : Obligations.ReadReferenceReportsTheRecord := by
  intro p tag s hr _
  refine ⟨listBytes s.part.ref.list, listBytes_length _, fun j hj => listBytes_getElem? _ hj, ?_⟩
  refine (s.submit_accepted (k := .readReference) tag hr rfl rfl).trans ?_
  rw [RefUnit.qualifyCount_eq, be16Nat, funext be16_eq]
  rfl

/-! ### READ_CHANNEL (R136, R156) -/

/-- The state of a channel and its halt reason as READ_CHANNEL returns them: 00H outside HALTED (R125). -/
def ChannelState.codes : ChannelState → List Byte
  | .idle => [0, 0]
  | .loading => [1, 0]
  | .priming => [2, 0]
  | .playing => [3, 0]
  | .ended => [4, 0]
  | .halted .stopped => [5, 1]
  | .halted .badPattern => [5, 2]
  | .halted .memoryRetaken => [5, 3]

theorem ChannelState.codes_eq (st : ChannelState) : st.codes = [st.code, st.haltCode] := by
  cases st with
  | halted reason => cases reason <;> rfl
  | _ => rfl

theorem ChannelRecord.shownPosition_eq (c : ChannelRecord) :
    c.shownPosition = if c.desc = none then 0 else c.position := by
  unfold ChannelRecord.shownPosition
  cases c.desc <;> rfl

section
variable (p : Port) {channel : Byte} {s : Part}

theorem actReadChannel_badChannel (h : 7 < channel.toNat) :
    actReadChannel p [channel] s = s.refuse .badChannel (zeros 10) := by
  simp only [actReadChannel, channelOf_none h]

/-- A READ_CHANNEL that names one of the eight channels returns its byte with the record and its holder. -/
theorem actReadChannel_record {k : Channel} (hk : channel.toNat = k.val) :
    actReadChannel p [channel] s = s.accept ([channel] ++ (s.channel k).state.codes
      ++ [optPortCode (s.claims.holder (.channel k)), optPatternCode (s.channel k).pattern]
      ++ be24Nat (if (s.channel k).desc = none then 0 else (s.channel k).position)
      ++ [byteOf (s.channel k).queue.length, (s.channel k).underruns]) := by
  simp only [actReadChannel, channelOf_of_toNat hk, byteOf_of_toNat hk, ChannelRecord.shownPosition_eq,
    ChannelState.codes_eq]
  rfl

end

/-- Settles O37: the check on the channel byte, then the record. -/
theorem readChannelReportsTheRecord : Obligations.ReadChannelReportsTheRecord := by
  intro p tag channel s hr
  refine ⟨fun h => ?badChannel, fun k hk => ?record⟩
  case badChannel => exact s.submit_refused (k := .readChannel) tag hr rfl (actReadChannel_badChannel p h)
  case record => exact s.submit_accepted (k := .readChannel) tag hr rfl (actReadChannel_record p hk)

/-! ### NOTICE_MASK (R137) and unknown kinds (R126) -/

theorem Part.maskFields_eq (s : Part) (p : Port) :
    s.maskFields p = [BitVec.ofNat 8 (s.chan p).mask.toNat] := by
  rw [Part.maskFields, BitVec.ofNat_toNat]

theorem actNoticeMask_badValue (p : Port) {mask : Byte} (s : Part) (h : 32 ≤ mask.toNat) :
    actNoticeMask p [mask] s = s.refuse .badValue [BitVec.ofNat 8 (s.chan p).mask.toNat] := by
  simp only [actNoticeMask, if_pos h, Part.maskFields_eq]

/-- A mask without bits 5 to 7 replaces the requester's, and the reply carries the same byte again. -/
theorem actNoticeMask_replaces (p : Port) {mask : Byte} (s : Part) (h : mask.toNat < 32) :
    actNoticeMask p [mask] s =
      (s.modifyChan p fun c => { c with mask := BitVec.ofNat 5 mask.toNat }).accept [mask] := by
  have kept : BitVec.ofNat 8 (BitVec.ofNat 5 mask.toNat).toNat = mask := by
    rw [BitVec.toNat_ofNat, Nat.mod_eq_of_lt h, BitVec.ofNat_toNat, BitVec.setWidth_eq]
  simp only [actNoticeMask, if_neg h.not_ge, Part.maskFields_eq, Part.modifyChan_chan_self,
    ← BitVec.ofNat_toNat, kept]

/-- The kind bytes of the sixteen requests are 01H to 10H (R123). -/
theorem RequestKind.code_range (k : RequestKind) : 1 ≤ k.code.toNat ∧ k.code.toNat ≤ 16 := by
  cases k <;> decide

theorem requestKind_none {kind : Byte} (h : kind.toNat = 0 ∨ 16 < kind.toNat) : requestKind kind = none := by
  refine List.find?_eq_none.mpr fun k _ named => ?_
  obtain ⟨low, high⟩ := k.code_range
  rw [eq_of_beq named] at low high
  omega

/-- Settles O47: the one check of NOTICE_MASK, and a kind byte outside 01H to 10H. -/
theorem masksAndUnknownKindsAreAnswered : Obligations.MasksAndUnknownKindsAreAnswered := by
  intro p tag s hr
  refine ⟨fun mask h => ?badValue, fun mask h => ?replaces, fun kind fields h => ?unknown⟩
  case badValue => exact s.submit_refused (k := .noticeMask) tag hr rfl (actNoticeMask_badValue p s.part h)
  case replaces => exact s.submit_fits p .noticeMask tag [mask] hr rfl (actNoticeMask_replaces p s.part h)
  case unknown =>
    refine (s.submit_ready p (kind :: tag :: fields) hr).trans ?_
    simp only [Part.answerMessage, requestKind_none h]
    rfl

/-! ### Wrong lengths (R127) -/

/-- A CLAIM or RELEASE is too short to name a class, or has the wrong length for the class that it names. -/
def claimLengthWrong (fields : List Byte) : Prop :=
  fields = [] ∨ (fields[0]? = some 0x01 ∧ fields.length ≠ 4) ∨ (fields[0]? = some 0x02 ∧ fields.length ≠ 2)
    ∨ (fields[0]? = some 0x03 ∧ fields.length ≠ 1)

theorem lengthFits_claim_of_wrong {fields : List Byte} (h : claimLengthWrong fields) :
    lengthFits .claim fields = false := by
  have wrong : ∀ (rest : List Byte) (n : Nat), rest.length + 1 ≠ n + 1 → (rest.length == n) = false :=
    fun rest n hn => beq_false_of_ne (mt (congrArg (· + 1)) hn)
  cases fields with
  | nil => rfl
  | cons c rest =>
    simp only [claimLengthWrong, List.getElem?_cons_zero, Option.some_inj, List.length_cons] at h
    obtain empty | ⟨rfl, hn⟩ | ⟨rfl, hn⟩ | ⟨rfl, hn⟩ := h
    · cases empty
    · exact wrong rest 3 hn
    · exact wrong rest 1 hn
    · exact wrong rest 0 hn

theorem lengthFits_setReferences_of_wrong {fields : List Byte} (h : fields.length = 0 ∨ 5 < fields.length) :
    lengthFits .setReferences fields = false := by
  simp only [lengthFits, Bool.and_eq_false_iff, decide_eq_false_iff_not]
  omega

/-- Settles O48: the lengths of R127, kind by kind; a wrong one is answered by the channel itself. -/
theorem wrongLengthsAreRefused : Obligations.WrongLengthsAreRefused := by
  intro p tag fields s hr
  have refused : ∀ k, lengthFits k fields = false → s.submit p (k.code :: tag :: fields) =
      .next (s.replying p ⟨replyKind k, tag, .badLength, refusalFields k p s.part, false⟩) :=
    fun k => s.submit_badLength p k tag fields hr
  refine ⟨fun h => ?none, fun h => ?one, fun h => ?two, fun h => ?three, fun h => ?four, fun h => ?five,
    fun h => ?references, fun h => ?claims⟩
  case none =>
    have h := beq_false_of_ne h
    exact ⟨refused .probe h, refused .discard h, refused .readReference h, refused .restart h⟩
  case one =>
    have h := beq_false_of_ne h
    have mask := refused .noticeMask h
    rw [refusalFields, Part.maskFields_eq] at mask
    exact ⟨refused .readPort h, refused .readChannel h, refused .stop h, mask⟩
  case two =>
    have h := beq_false_of_ne h
    exact ⟨refused .readRoute h, refused .play h⟩
  case three => exact refused .apply (beq_false_of_ne h)
  case four => exact refused .setProfile (beq_false_of_ne h)
  case five => exact refused .stage (beq_false_of_ne h)
  case references => exact refused .setReferences (lengthFits_setReferences_of_wrong h)
  case claims =>
    have h := lengthFits_claim_of_wrong h
    exact ⟨refused .claim h, refused .release h⟩

end Sys2Proof.Machine
end

section
/-! Chapter 9, STOP (R142): the fetches that a channel leaves (R146), the halt (R154), and the two checks of the
request. -/

namespace Sys2Proof.Machine

open Sys2Proof

/-! ### What leaving the fetches removes (R146) -/

/-- A fetch that is left behind comes from one that was pending: it keeps its pattern and its progress, it loses
channel `k`, and it was not one awaiting issue with no other waiter. -/
theorem mem_leaveFetches_none {fs : List Fetch} {k : Channel} {f' : Fetch} :
    f' ∈ leaveFetches fs k none ↔ ∃ f ∈ fs,
      ¬ (k ∈ f.waiters ∧ (f.waiters.filter fun j => decide (j ≠ k)) = [] ∧ f.progress = .awaitingIssue)
      ∧ { f with waiters := f.waiters.filter fun j => decide (j ≠ k) } = f' := by
  simp only [leaveFetches_none, List.mem_filterMap, Option.ite_none_left_eq_some, Option.some_inj]

/-- A fetch awaiting issue whose only waiter leaves goes, and no other fetch for its pattern is left behind. -/
theorem leaveFetches_none_removes {fs : List Fetch} {k : Channel} {f : Fetch}
    (awaiting : f.progress = .awaitingIssue) (only : f.waiters = [k])
    (single : ∀ g ∈ fs, g.pattern = f.pattern → g = f) :
    ∀ f' ∈ leaveFetches fs k none, f'.pattern ≠ f.pattern := by
  intro f' left same
  obtain ⟨g, pending, stays, rfl⟩ := mem_leaveFetches_none.mp left
  obtain rfl : g = f := single g pending same
  exact stays ⟨by simp [only], by simp [only], awaiting⟩

/-! ### The part after an accepted STOP (R142, R154) -/

section
variable (s : Part) (k : Channel)

theorem Part.stopChannel_channel : (s.stopChannel k).channel k =
    { s.channel k with state := .halted .stopped, queue := [], epoch := (s.channel k).epoch + 1 } :=
  s.setChannel_channel_self k _

theorem Part.stopChannel_fetches :
    (s.stopChannel k).play.fetches = leaveFetches s.play.fetches k none := rfl

/-- A STOP moves the record of its channel and the pending fetches alone. -/
theorem Part.stopChannel_eq : s.stopChannel k = { s with play := { s.play with
    channels := s.play.channels.set k ((s.stopChannel k).channel k)
    fetches := (s.stopChannel k).play.fetches } } := by
  rw [Part.stopChannel_channel]
  rfl

end

/-! ### The checks of STOP (R142) -/

section
variable (p : Port) {kb : Byte} {s : Part}

theorem actStop_badChannel (h : 7 < kb.toNat) : actStop p [kb] s = s.refuse .badChannel [kb, 0xFF] := by
  simp only [actStop, channelOf_none h]

variable {k : Channel} (hk : kb.toNat = k.val)
include hk

theorem Part.channelFields_eq (s : Part) : s.channelFields k = [kb, (s.channel k).state.code] := by
  rw [Part.channelFields, byteOf_of_toNat hk]

theorem actStop_notHolder (h : s.claims.holder (.channel k) ≠ some p) :
    actStop p [kb] s = s.refuse .notHolder [kb, (s.channel k).state.code] := by
  simp only [actStop, channelOf_of_toNat hk, if_pos h, Part.channelFields_eq hk]

/-- A STOP by the holder is answered with the state that its own halt gives. -/
theorem actStop_holder (h : s.claims.holder (.channel k) = some p) :
    actStop p [kb] s = (s.stopChannel k).accept [kb, 0x05] := by
  simp only [actStop, channelOf_of_toNat hk, if_neg (not_not.mpr h), Part.channelFields_eq hk,
    Part.stopChannel_channel, ChannelState.code]

end

/-- Settles O50: the two checks in their order, then the part after the halt, carried through `exec`. -/
theorem stopHaltsTheChannel : Obligations.StopHaltsTheChannel := by
  intro p tag kb s hr
  refine ⟨fun h => ?badChannel, fun k hk => ⟨fun unheld => ?notHolder, fun held => ?halts⟩⟩
  case badChannel => exact s.submit_refused (k := .stop) tag hr rfl (actStop_badChannel p h)
  case notHolder => exact s.submit_refused (k := .stop) tag hr rfl (actStop_notHolder p hk unheld)
  case halts =>
    refine ⟨_, s.submit_fits p .stop tag [kb] hr rfl (actStop_holder p hk held), rfl,
      s.part.stopChannel_channel k, (s.part.stopChannel_fetches k).trans (leaveFetches_none _ k),
      ?removed, ?frame⟩
    case removed => exact fun f _ awaiting only single => leaveFetches_none_removes awaiting only single
    case frame => exact congrArg (fun t : Part => t.pushReply p _) (s.part.stopChannel_eq k)

end Sys2Proof.Machine
end

section
/-! What one step can do (R168, R7, R90 to R97, R109, R160 to R164): a step of a part in device reset, and the
events of a part that runs, one for each way a command or the passing of time moves it. -/

namespace Sys2Proof.Machine

open Sys2Proof

/-- What a command, or the passing of time, makes of a part that runs. -/
inductive Part.Event (s : Part) : Part → Prop
  | nothing : Event s s
  | frameStart (cause : StartCause) : s.startDue cause = true → Event s (s.frameStart cause)
  | lapse (l : LapseFirst) (cause : StartCause) : Event s ((s.lapsesAhead l).frameStart cause)
  | clockFound (p : Port) : (s.port p).lock = .dark →
      Event s ((s.modifyPort p fun u => u.outOfLock .seek (.pattern u.dout.atEnd)).raisePortState p
        .dark .clockFound)
  | clockLost (p : Port) (level : Dout) (before : LockState) : s.inLock p = false →
      Event s ((s.modifyPort p fun u => u.outOfLock .dark level).raisePortState p before .clockLost)
  | clockWatch (p : Port) (level : Dout) : s.inLock p = true →
      Event s (s.leaveLock p .dark level .clockLost true)
  | pulse (p : Port) (place : PulsePlace) (deferStart : Bool) : Event s (s.pulse p place deferStart)
  | missingPulse (p : Port) (good : Nat) : (s.port p).lock = .confirm good →
      Event s (s.modifyPort p fun u => { u with lock := .seek, position := 0 })
  | wholeEnd (p : Port) (pulse : Bool) (rest : List Byte) : s.inLock p = true →
      Event s (s.wholeEnd p pulse rest)
  | completionShare (p : Port) (pulse : Bool) (rest : List Byte) : s.inLock p = true →
      Event s (s.completionShare p pulse rest)
  | startShare (p : Port) (pulse : Bool) : s.inLock p = true → Event s (s.startShare p pulse)
  | controlByte (p : Port) (earlier : List Byte) (b : Byte) : s.inLock p = true →
      Event s (s.controlByte p earlier b)
  | message (p : Port) (body : List Byte) : s.inLock p = true → Event s (s.messageComplete p body)
  | arbitrate : Event s s.arbitrate
  | completeBurst (bytes : List Byte) : Event s (s.completeBurst bytes)
  | loanReq : Event s (s.setLoanReq true).takeLoanReq
  | loanRelease : Event s (s.setLoanReq false).takeLoanRelease
  | tick : Event s s.tick

/-- What a step can do: in device reset only its end and the level of LOAN_REQ count (R168); else device reset
begins, or the part has an event. -/
def Part.stepsTo (s t : Part) : Prop :=
  (s.inReset = true ∧ (t = s ∨ (∃ x, t = s.release x) ∨ ∃ level, t = s.setLoanReq level))
    ∨ (s.inReset = false ∧ (t = s.held ∨ s.Event t))

/-- A command that nothing takes in device reset, and that is an event of a part that runs. -/
theorem Part.stepsTo_whenRunning {s : Part} {f : Part → Part} (h : s.inReset = false → s.Event (f s)) :
    s.stepsTo (s.whenRunning f) := by
  unfold Part.whenRunning
  cases hr : s.inReset with
  | true => exact .inl ⟨hr, .inl rfl⟩
  | false => exact .inr ⟨hr, .inr (h hr)⟩

/-- An event that takes place on a condition only. -/
theorem Part.event_if {s t : Part} (c : Prop) [Decidable c] (h : c → s.Event t) :
    s.Event (if c then t else s) := by
  split
  · exact h ‹_›
  · exact .nothing

/-- A command's outcome, where its part is a step's. -/
theorem State.whenRunning_stepsTo {s t : State} {f : Part → Part}
    (h : s.answer (s.part.whenRunning f) = .next t) (hf : s.part.inReset = false → s.part.Event (f s.part)) :
    s.part.stepsTo t.part := by
  obtain rfl := Host.Outcome.next.inj h
  exact Part.stepsTo_whenRunning hf

theorem State.submit_stepsTo {s t : State} {p : Port} {body : List Byte} (h : s.submit p body = .next t) :
    s.part.stepsTo t.part := by
  exact State.whenRunning_stepsTo h fun _ => Part.event_if _ fun hl => .message p body hl

/-- Every command, dispatched to its event. -/
theorem exec_stepsTo (c : Instr) {s t : State} (h : exec c s = .next t) : s.part.stepsTo t.part := by
  cases c
  case probe | claim | release | stage | discard | apply | readRoute | readPort | readReference
      | readChannel | setReferences | setProfile | restart | play | stop | noticeMask | unknownKind =>
    exact State.submit_stepsTo h
  case resetBegin =>
    obtain rfl := Host.Outcome.next.inj h
    dsimp only
    split
    case isTrue hr => exact .inl ⟨hr, .inl rfl⟩
    case isFalse hr => exact .inr ⟨by simpa using hr, .inl rfl⟩
  case resetEnd x =>
    obtain rfl := Host.Outcome.next.inj h
    dsimp only
    split
    case isTrue hr => exact .inl ⟨hr, .inr (.inl ⟨x, rfl⟩)⟩
    case isFalse hr => exact .inr ⟨by simpa using hr, .inr .nothing⟩
  case exchangeFrameStart cause =>
    exact State.whenRunning_stepsTo h fun _ => Part.event_if _ fun due => .frameStart cause due
  case lapse l =>
    exact State.whenRunning_stepsTo h fun _ => Part.event_if _ fun _ => .lapse l _
  case qualified | revertiveSwitch =>
    exact State.whenRunning_stepsTo h fun _ => Part.event_if _ fun due =>
      .frameStart _ (Bool.and_eq_true _ _ ▸ due).2
  case clockFound p =>
    exact State.whenRunning_stepsTo h fun _ => Part.event_if _ fun dark => .clockFound p dark
  case clockWatchExpiry clock =>
    refine State.whenRunning_stepsTo h fun _ => ?_
    dsimp only
    split
    case h_1 => exact .nothing
    case h_2 l | h_3 l => exact .clockLost _ _ _ (by simp [Part.inLock, l, LockState.inLock])
    case h_4 l | h_5 l => exact .clockWatch _ _ (by simp [Part.inLock, l, LockState.inLock])
  case framePulse p place deferStart =>
    exact State.whenRunning_stepsTo h fun _ => .pulse p place deferStart
  case confirmMissingPulse p =>
    refine State.whenRunning_stepsTo h fun _ => ?_
    split
    case h_1 l => exact .missingPulse p _ l
    all_goals exact .nothing
  case frameEnd p pulse rest share =>
    refine State.whenRunning_stepsTo h fun _ => Part.event_if _ fun hl => ?_
    cases share with
    | whole => exact .wholeEnd p pulse rest hl
    | completion => exact .completionShare p pulse rest hl
    | start => exact .startShare p pulse hl
  case controlMessageReceived p earlier check =>
    exact State.whenRunning_stepsTo h fun _ => Part.event_if _ fun hl =>
      .controlByte p earlier check (Bool.and_eq_true _ _ ▸ hl).1
  case replyStart p =>
    exact State.whenRunning_stepsTo h fun _ => Part.event_if _ fun hl =>
      .startShare p true (by simp only [Bool.and_eq_true] at hl; exact hl.1.1)
  case noticeStart p =>
    exact State.whenRunning_stepsTo h fun _ => Part.event_if _ fun hl =>
      .startShare p true (by simp only [Bool.and_eq_true] at hl; exact hl.1.1.1)
  case arbiterChoice => exact State.whenRunning_stepsTo h fun _ => .arbitrate
  case burstCompletion bytes => exact State.whenRunning_stepsTo h fun _ => .completeBurst bytes
  case loanReqAssertion =>
    obtain rfl := Host.Outcome.next.inj h
    dsimp only
    split
    case isTrue => cases hr : s.part.inReset <;> simp [Part.stepsTo, hr, Part.Event.nothing]
    case isFalse =>
      cases hr : s.part.inReset with
      | true => exact .inl ⟨hr, .inr (.inr ⟨true, by simp [Part.whenRunning, hr]⟩)⟩
      | false => exact .inr ⟨hr, .inr (by simpa [Part.whenRunning, hr] using Part.Event.loanReq)⟩
  case loanReqRelease =>
    obtain rfl := Host.Outcome.next.inj h
    dsimp only
    split
    case isTrue =>
      cases hr : s.part.inReset with
      | true => exact .inl ⟨hr, .inr (.inr ⟨false, by simp [Part.whenRunning, hr]⟩)⟩
      | false => exact .inr ⟨hr, .inr (by simpa [Part.whenRunning, hr] using Part.Event.loanRelease)⟩
    case isFalse => cases hr : s.part.inReset <;> simp [Part.stepsTo, hr, Part.Event.nothing]
  case controlByteArrival p earlier b =>
    exact State.whenRunning_stepsTo h fun _ => Part.event_if _ fun hl => .controlByte p earlier b hl

/-- One step, of a command or of the part itself. -/
theorem step_stepsTo {s t : State} (h : step s = .next t) : s.part.stepsTo t.part := by
  unfold step at h
  split at h
  case h_1 c rest _ => exact exec_stepsTo (s := ⟨s.part, rest⟩) c h
  case h_2 =>
    refine State.whenRunning_stepsTo h fun _ => ?_
    split
    · exact .arbitrate
    · split
      · exact .frameStart _ ‹_›
      · exact .tick

end Sys2Proof.Machine
end

section
/-! What the owner of a request can do (R111): one case for each accepted request, with what its checks have shown. -/

namespace Sys2Proof.Machine

open Sys2Proof

/-- What the request of the master on port `p` makes of the part. -/
inductive Part.Action (s : Part) (p : Port) : Part → Prop
  | nothing : Action s p s
  | claim (os : List ClaimObject) : (∀ q i, .slot q i ∈ os → s.carries q i) →
      (∀ o ∈ os, s.claims.holder o = none ∨ s.claims.holder o = some p) →
      Action s p { s with claims := s.claims.setHolders os (some p) }
  | release (os : List ClaimObject) : (∀ o ∈ os, s.claims.holder o = some p) →
      Action s p (({ s with claims := s.claims.setHolders os none } : Part).removeEdits p (targetsOneOf os)
        .released)
  | stage (e : Edit) : s.claims.holder (.slot e.port e.slot) = some p → s.sourceLawful e.source →
      (s.list p).target = none →
      (16 ≤ (s.list p).edits.length → ((s.list p).edits.any fun g => g.sameTarget e) = true) →
      Action s p { s with lists := s.lists.set p ((s.list p).withEdit e) }
  | discard : Action s p (s.clearList p)
  | arm (t : Target) : (s.list p).edits ≠ [] →
      Action s p { s with lists := s.lists.set p { s.list p with target := some t } }
  | setReferences (list : List Port) (revertive : Bool) : list.Nodup →
      Action s p (s.setReferences list revertive)
  | setProfile (n : SlotCount) (c : ControlSlot) (fill : Byte) (depth : PrimeDepth) :
      Action s p (s.modifyPort p fun u => u.withProfile n c fill depth)
  | restart : Action s p (s.modifyPort p fun u => { u with action := some .restart })
  | play (k : Channel) (n : Pattern) : Action s p (s.startPlay k n)
  | stop (k : Channel) : Action s p (s.stopChannel k)
  | mask (m : BitVec 5) : Action s p (s.modifyChan p fun c => { c with mask := m })

theorem classOf_eq_some_iff {c : Byte} {cls : ObjectClass} :
    classOf c = some cls ↔ c = (match cls with | .slots => 1 | .channel => 2 | .timing => 3) := by
  unfold classOf
  constructor
  · intro h
    split at h
    · obtain rfl := Option.some.inj h; assumption
    split at h
    · obtain rfl := Option.some.inj h; assumption
    split at h
    · obtain rfl := Option.some.inj h; assumption
    · contradiction
  · rintro rfl
    cases cls <;> rfl

/-- Fields of a wrong length for their class name nothing (R127). -/
theorem Part.namedObjects_badLength (s : Part) {c : Byte} {rest : List Byte} {cls : ObjectClass}
    (hc : classOf c = some cls) (h : lengthFits .claim (c :: rest) = false) :
    s.namedObjects (c :: rest) = .error .badLength := by
  simp only [lengthFits, hc] at h
  unfold Part.namedObjects
  cases cls with
  | slots => rcases rest with _ | ⟨_, _ | ⟨_, _ | ⟨_, _ | ⟨_, _⟩⟩⟩⟩ <;> simp_all
  | channel => rcases rest with _ | ⟨_, _ | ⟨_, _⟩⟩ <;> simp_all
  | timing => rcases rest with _ | ⟨_, _⟩ <;> simp_all

/-- The slots that pass the checks of R20 and R21 are carried, and none is the control slot. -/
theorem Part.carries_of_slots {s : Part} {port first count : Byte} {os : List ClaimObject}
    (h : s.namedObjects [0x01, port, first, count] = .ok os) {q : Port} {i : Slot} (hi : .slot q i ∈ os) :
    s.carries q i := by
  by_cases badCount : count.toNat = 0 ∨ 64 < count.toNat
  · cases (s.namedObjects_badCount port first badCount).symm.trans h
  by_cases badPort : 3 < port.toNat
  · cases (s.namedObjects_badPort first (by omega) (by omega) badPort).symm.trans h
  have hq : port.toNat = (⟨port.toNat, by omega⟩ : Port).val := rfl
  generalize (⟨port.toNat, _⟩ : Port) = q' at hq
  by_cases badSlot : (s.port q').profile.slots < first.toNat + count.toNat
  · cases (s.namedObjects_badSlot hq (by omega) (by omega) badSlot).symm.trans h
  by_cases reserved : first.toNat ≤ (s.port q').profile.control
      ∧ (s.port q').profile.control < first.toNat + count.toNat
  · cases (s.namedObjects_reserved hq (by omega) (by omega) (by omega) reserved.1 reserved.2).symm.trans h
  obtain rfl := Except.ok.inj ((s.namedObjects_slots hq (by omega) (by omega) reserved).symm.trans h)
  have bound := (s.port q').profile.slots_le
  rw [slotRange_eq_filter _ _ _ (by omega)] at hi
  simp only [List.mem_map, List.mem_filter, decide_eq_true_eq, ClaimObject.slot.injEq] at hi
  obtain ⟨j, ⟨-, hj⟩, rfl, rfl⟩ := hi
  exact ⟨by omega, by omega⟩

/-- A slot that a CLAIM or RELEASE names is carried and is not the control slot (R20, R21). -/
theorem Part.carries_of_namedObjects {s : Part} {fields : List Byte} {os : List ClaimObject}
    (h : s.namedObjects fields = .ok os) {q : Port} {i : Slot} (hi : .slot q i ∈ os) : s.carries q i := by
  rcases fields with _ | ⟨c, rest⟩
  · cases h
  cases hc : classOf c with
  | none => cases (s.namedObjects_badClass rest hc).symm.trans h
  | some cls =>
    cases fits : lengthFits .claim (c :: rest) with
    | false => cases (s.namedObjects_badLength hc fits).symm.trans h
    | true =>
      simp only [lengthFits, hc] at fits
      cases cls with
      | slots =>
        obtain ⟨port, first, count, rfl⟩ := List.length_eq_three.mp (by simpa using fits)
        obtain rfl := classOf_eq_some_iff.mp hc
        exact Part.carries_of_slots h hi
      | channel =>
        obtain ⟨k, rfl⟩ := List.length_eq_one_iff.mp (by simpa using fits)
        obtain rfl := classOf_eq_some_iff.mp hc
        by_cases bad : 7 < k.toNat
        · cases (s.namedObjects_badChannel bad).symm.trans h
        · obtain rfl := Except.ok.inj ((s.namedObjects_channel (k := ⟨k.toNat, by omega⟩) rfl).symm.trans h)
          simp at hi
      | timing =>
        obtain rfl := List.length_eq_zero_iff.mp (by simpa using fits)
        obtain rfl := classOf_eq_some_iff.mp hc
        obtain rfl := Except.ok.inj (s.namedObjects_timing.symm.trans h)
        simp at hi

/-- A source that a STAGE reads is lawful (R38). -/
theorem Part.sourceLawful_of_sourceOf {s : Part} {kind a b : Byte} {src : Source}
    (h : s.sourceOf kind a b = some src) : s.sourceLawful src := by
  unfold Part.sourceOf at h
  split at h
  · obtain rfl := Option.some.inj h; trivial
  split at h
  · obtain rfl := Option.some.inj h; trivial
  split at h
  · split at h
    · dsimp only at h
      split at h
      case isTrue carried =>
        obtain rfl := Option.some.inj h
        simpa only [Part.carries, Bool.and_eq_true, decide_eq_true_eq, bne_iff_ne] using carried
      case isFalse => contradiction
    · contradiction
  split at h
  · obtain ⟨k, -, rfl⟩ := Option.map_eq_some_iff.mp h; trivial
  · contradiction

/-- Every action of an owner is one of these (R111). -/
theorem act_action (k : RequestKind) (p : Port) (fields : List Byte) (s : Part) :
    s.Action p (act k p fields s).part := by
  cases k
  case probe | readReference => exact .nothing
  case claim =>
    simp only [act, actClaim]
    split
    · exact .nothing
    case h_2 os named =>
      split
      · exact .nothing
      case h_2 free =>
        refine .claim os (fun q i => s.carries_of_namedObjects named) fun o ho => ?_
        exact (s.claims.not_contested_iff p o).mp (List.find?_eq_none.mp free o ho)
  case release =>
    simp only [act, actRelease]
    split
    · exact .nothing
    case h_2 os _ =>
      split
      · exact .nothing
      case h_2 held =>
        exact .release os fun o ho => by simpa using List.find?_eq_none.mp held o ho
  case stage =>
    simp only [act, actStage]
    split
    case h_2 => exact .nothing
    split
    · exact .nothing
    split
    · exact .nothing
    split
    · exact .nothing
    split
    · exact .nothing
    split
    · exact .nothing
    case isFalse held =>
      split
      · exact .nothing
      case h_2 source =>
        split
        · exact .nothing
        case isFalse unarmed =>
          split
          · exact .nothing
          case isFalse room =>
            refine .stage ⟨_, _, _⟩ (not_not.mp held) (s.sourceLawful_of_sourceOf source)
              (by simpa [StagingList.armed] using unarmed) ?_
            simpa using room
  case discard => exact .discard
  case apply =>
    simp only [act, actApply]
    split
    case h_2 => exact .nothing
    split
    · exact .nothing
    split
    · exact .nothing
    case isFalse nonempty =>
      have filled : (s.list p).edits ≠ [] := by simpa using nonempty
      split
      · exact .nothing
      split
      · exact .arm _ filled
      split <;> exact .arm _ filled
  case readRoute =>
    simp only [act, actReadRoute]
    repeat' split
    all_goals exact .nothing
  case readPort =>
    simp only [act, actReadPort]
    repeat' split
    all_goals exact .nothing
  case readChannel =>
    simp only [act, actReadChannel]
    repeat' split
    all_goals exact .nothing
  case setReferences =>
    simp only [act, actSetReferences]
    split
    case h_2 => exact .nothing
    split
    · exact .nothing
    split
    case h_2 => exact .nothing
    split
    · exact .setReferences _ _ ‹_›
    · exact .nothing
  case setProfile =>
    simp only [act, actSetProfile]
    split
    case h_2 => exact .nothing
    split
    case h_2 => exact .nothing
    split
    · exact .nothing
    split
    · exact .nothing
    · exact .setProfile ..
  case restart =>
    simp only [act, actRestart]
    split
    · exact .nothing
    · exact .restart
  case play =>
    simp only [act, actPlay]
    split
    case h_2 => exact .nothing
    split
    · exact .nothing
    split
    · exact .nothing
    split
    · exact .nothing
    split
    · exact .nothing
    · exact .play ..
  case stop =>
    simp only [act, actStop]
    split
    case h_2 => exact .nothing
    split
    · exact .nothing
    split
    · exact .nothing
    · exact .stop ..
  case noticeMask =>
    simp only [act, actNoticeMask]
    split
    case h_2 => exact .nothing
    split
    · exact .nothing
    · exact .mask _

/-! ### Device reset does not begin at a request or a leaving of lock -/

section
variable (s : Part)

@[simp] theorem Part.removeEdits_inReset (m : Port) (gone : Edit → Bool) (reason : CancelReason) :
    (s.removeEdits m gone reason).inReset = s.inReset := by rw [Part.removeEdits_eq]

@[simp] theorem Part.clearCandidate_inReset (reason : RefReason) :
    (s.clearCandidate reason).inReset = s.inReset := by rw [Part.clearCandidate_eq]

@[simp] theorem Part.loseReference_inReset (reason : RefReason) :
    (s.loseReference reason).inReset = s.inReset := by
  unfold Part.loseReference
  dsimp only
  split <;> simp

@[simp] theorem Part.lockChanged_inReset (p : Port) (before after : LockState) :
    (s.lockChanged p before after).inReset = s.inReset := by
  unfold Part.lockChanged
  split
  · simp
  split <;> simp

@[simp] theorem Part.setReferences_inReset (list : List Port) (revertive : Bool) :
    (s.setReferences list revertive).inReset = s.inReset := by
  unfold Part.setReferences
  dsimp only
  repeat' split
  all_goals simp

@[simp] theorem Part.startPlay_inReset (k : Channel) (n : Pattern) : (s.startPlay k n).inReset = s.inReset := by
  unfold Part.startPlay
  dsimp only
  split <;> rfl

@[simp] theorem Part.profileEffect_inReset (p : Port) (n : SlotCount) (c : ControlSlot) :
    (s.profileEffect p n c).inReset = s.inReset := by
  unfold Part.profileEffect
  rw [foldl_keeps (Part.settleEdits s.claims p n c) Part.inReset (fun v m => v.removeEdits_inReset m _ _)]
  rfl

@[simp] theorem Part.actionEffect_inReset (p : Port) : (s.actionEffect p).inReset = s.inReset := by
  unfold Part.actionEffect
  split <;> simp

@[simp] theorem Part.leaveLock_inReset (p : Port) (dest : LockState) (dout : Dout) (cause : PortCause)
    (counted : Bool) : (s.leaveLock p dest dout cause counted).inReset = s.inReset := by
  simp [Part.leaveLock, Part.dropLock]

end

theorem Part.Action.inReset {s t : Part} {p : Port} (h : s.Action p t) : t.inReset = s.inReset := by
  cases h <;> simp [Part.stopChannel]

end Sys2Proof.Machine
end

section
/-! Laws of the reference record, of the map and the claims, and of the playback unit: what a law must be kept by for
every step to keep it. A law of this kind is blind to the control channels, the stores and the counters. -/

namespace Sys2Proof.Machine

open Sys2Proof

/-- `t` has the records of `s` that the laws of the reference unit, of the routes and of the playback unit speak of,
but for the lock states. -/
def Part.sameRecords (s t : Part) : Prop :=
  t.inReset = s.inReset ∧ t.ref = { s.ref with timer := t.ref.timer } ∧ t.exch.map = s.exch.map
    ∧ t.claims.holder = s.claims.holder ∧ t.lists = s.lists ∧ t.play = s.play
    ∧ (t.mem.state = s.mem.state ∧ t.mem.burst = s.mem.burst)
    ∧ ∀ p, (t.port p).profile.slotCount = (s.port p).profile.slotCount
        ∧ (t.port p).profile.controlSlot = (s.port p).profile.controlSlot

/-- `t` has the lock states of `s`, but for port `p`. -/
def Part.sameLocksBut (s t : Part) (p : Port) : Prop := ∀ q, q ≠ p → (t.port q).lock = (s.port q).lock

/-- `t` has the records of `s` and its lock states. -/
def Part.sameStanding (s t : Part) : Prop :=
  s.sameRecords t ∧ ∀ q, (t.port q).lock = (s.port q).lock

theorem Part.sameRecords_refl (s : Part) : s.sameRecords s :=
  ⟨rfl, rfl, rfl, rfl, rfl, rfl, ⟨rfl, rfl⟩, fun _ => ⟨rfl, rfl⟩⟩

theorem Part.sameRecords.trans {s t u : Part} (h : s.sameRecords t) (g : t.sameRecords u) : s.sameRecords u := by
  obtain ⟨h1, h2, h3, h4, h5, h6, ⟨h7, h8⟩, h9⟩ := h
  obtain ⟨g1, g2, g3, g4, g5, g6, ⟨g7, g8⟩, g9⟩ := g
  refine ⟨g1.trans h1, ?_, g3.trans h3, g4.trans h4, g5.trans h5, g6.trans h6, ⟨g7.trans h7, g8.trans h8⟩,
    fun p => ⟨(g9 p).1.trans (h9 p).1, (g9 p).2.trans (h9 p).2⟩⟩
  rw [g2, h2]

theorem Part.sameStanding_refl (s : Part) : s.sameStanding s := ⟨s.sameRecords_refl, fun _ => rfl⟩

theorem Part.sameStanding.trans {s t u : Part} (h : s.sameStanding t) (g : t.sameStanding u) :
    s.sameStanding u := ⟨h.1.trans g.1, fun q => (g.2 q).trans (h.2 q)⟩

/-- Port units, stores, channels and the count of free values alone make no difference to the records. -/
theorem Part.sameRecords_of_units {s t : Part}
    (h : t = { s with ports := t.ports, inStores := t.inStores, outStores := t.outStores, chans := t.chans,
                      freeCount := t.freeCount })
    (hp : ∀ p, (t.port p).profile.slotCount = (s.port p).profile.slotCount
        ∧ (t.port p).profile.controlSlot = (s.port p).profile.controlSlot) : s.sameRecords t := by
  refine ⟨?_, ?_, ?_, ?_, ?_, ?_, ⟨?_, ?_⟩, hp⟩ <;> rw [h]

/-- An update of one port unit that keeps its slot count and control slot. -/
theorem Part.modifyPort_sameRecords (s : Part) (p : Port) {f : PortUnit → PortUnit}
    (hn : (f (s.port p)).profile.slotCount = (s.port p).profile.slotCount)
    (hc : (f (s.port p)).profile.controlSlot = (s.port p).profile.controlSlot) :
    s.sameRecords (s.modifyPort p f) :=
  Part.sameRecords_of_units rfl fun q => by
    rw [Part.modifyPort_port]
    split
    · subst q; exact ⟨hn, hc⟩
    · exact ⟨rfl, rfl⟩

theorem Part.modifyPort_sameLocksBut (s : Part) (p : Port) (f : PortUnit → PortUnit) :
    s.sameLocksBut (s.modifyPort p f) p := fun q hq => by rw [Part.modifyPort_port_ne s f hq]

theorem Part.modifyPort_sameStanding (s : Part) (p : Port) {f : PortUnit → PortUnit}
    (hn : (f (s.port p)).profile.slotCount = (s.port p).profile.slotCount)
    (hc : (f (s.port p)).profile.controlSlot = (s.port p).profile.controlSlot)
    (hl : (f (s.port p)).lock = (s.port p).lock) : s.sameStanding (s.modifyPort p f) :=
  ⟨s.modifyPort_sameRecords p hn hc, fun q => by
    rw [Part.modifyPort_port]
    split
    · subst q; exact hl
    · rfl⟩

theorem Part.chans_sameStanding {s t : Part} (h : t = { s with chans := t.chans }) : s.sameStanding t := by
  have ports : t.ports = s.ports := by rw [h]
  have port : ∀ q, t.port q = s.port q := fun q => by rw [Part.port, ports, Part.port]
  refine ⟨Part.sameRecords_of_units ?_ fun q => by simp [port q], fun q => by rw [port q]⟩
  rw [h]

theorem Part.count_sameStanding (s : Part) (p : Port) (f : Counters → Counters) : s.sameStanding (s.count p f) :=
  s.modifyPort_sameStanding p rfl rfl rfl

theorem Part.raise_sameStanding (s : Part) (n : Notice) : s.sameStanding (s.raise n) :=
  Part.chans_sameStanding rfl

theorem Part.slip_sameStanding (s : Part) (p : Port) (d : Direction) (k : SlipKind) :
    s.sameStanding (s.slip p d k) :=
  (s.count_sameStanding p _).trans (Part.raise_sameStanding _ _)

theorem Part.readOutbound_sameStanding (s : Part) (p : Port) : s.sameStanding (s.readOutbound p) := by
  have stored : s.sameStanding { s with outStores := s.outStores.set p (s.outStores.get p).read } :=
    ⟨Part.sameRecords_of_units rfl fun _ => ⟨rfl, rfl⟩, fun _ => rfl⟩
  unfold Part.readOutbound
  dsimp only
  split
  · exact stored.trans (Part.slip_sameStanding _ _ _ _)
  · exact stored

theorem Part.writeInbound_sameStanding (s : Part) (p : Port) (f : Frame) : s.sameStanding (s.writeInbound p f) := by
  have stored : s.sameStanding { s with inStores := s.inStores.set p ((s.inStores.get p).write f) } :=
    ⟨Part.sameRecords_of_units rfl fun _ => ⟨rfl, rfl⟩, fun _ => rfl⟩
  unfold Part.writeInbound
  dsimp only
  split
  · exact stored.trans (Part.slip_sameStanding _ _ _ _)
  · exact stored

theorem Part.freeCount_sameStanding (s : Part) (n : Nat) : s.sameStanding { s with freeCount := n } :=
  ⟨Part.sameRecords_of_units rfl fun _ => ⟨rfl, rfl⟩, fun _ => rfl⟩

theorem Part.judged_sameStanding (s : Part) (p : Port) (good : Bool) : s.sameStanding (s.judged p good) := by
  unfold Part.judged
  split
  · exact s.sameStanding_refl
  · exact s.count_sameStanding p _

theorem Part.setLapseTimer_sameRecords (s : Part) (p : Port) (n : Nat) : s.sameRecords (s.setLapseTimer p n) :=
  ⟨rfl, rfl, rfl, funext fun o => s.setLapseTimer_holder p n o, rfl, rfl, ⟨rfl, rfl⟩, fun _ => ⟨rfl, rfl⟩⟩

theorem Part.setLoanReq_sameStanding (s : Part) (level : Bool) : s.sameStanding (s.setLoanReq level) :=
  ⟨⟨rfl, rfl, rfl, rfl, rfl, rfl, ⟨rfl, rfl⟩, fun _ => ⟨rfl, rfl⟩⟩, fun _ => rfl⟩

theorem Part.tick_sameStanding (s : Part) : s.sameStanding s.tick :=
  ⟨⟨rfl, rfl, rfl, rfl, rfl, rfl, ⟨rfl, rfl⟩, fun _ => ⟨rfl, rfl⟩⟩, fun _ => rfl⟩

/-- What keeps a law while no port enters or leaves lock: it is blind to all but the records, and the owners of
requests keep it. -/
structure Part.QuietLaw (P : Part → Prop) : Prop where
  standing : ∀ {s t : Part}, s.sameStanding t → P s → P t
  action : ∀ {s t : Part} {p : Port}, s.inReset = false → s.Action p t → P s → P t

/-- What keeps a law: each event that moves a record the law speaks of. -/
structure Part.Law (P : Part → Prop) : Prop extends Part.QuietLaw P where
  held : ∀ {s : Part}, P s → P s.held
  release : ∀ {s : Part} (x : Straps), s.inReset = true → P s → P (s.release x)
  frameStart : ∀ {s : Part} (cause : StartCause), s.inReset = false → P s → P (s.frameStart cause)
  lapseAhead : ∀ {s : Part} (p : Port), s.inReset = false → P s → P (s.lapseAhead p)
  /-- A port out of lock comes to any lock state (R90, R91, R93). -/
  found : ∀ {s t : Part} {p : Port}, s.inReset = false → s.inLock p = false → s.sameRecords t →
    s.sameLocksBut t p → P s → P t
  /-- A port in lock stays in lock, and the reference unit hears of its lock state (R92, R74). -/
  ended : ∀ {s t : Part} {p : Port} {after : LockState}, s.inReset = false → s.inLock p = true →
    s.sameRecords t → s.sameLocksBut t p → (t.port p).lock = after → after.inLock = true → P s →
    P (t.lockChanged p (s.port p).lock after)
  left : ∀ {s : Part} {p : Port} {dest : LockState} (dout : Dout) (cause : PortCause) (counted : Bool),
    s.inReset = false → s.inLock p = true → dest.inLock = false → P s → P (s.leaveLock p dest dout cause counted)
  arbitrate : ∀ {s : Part}, s.inReset = false → P s → P s.arbitrate
  completeBurst : ∀ {s : Part} (bytes : List Byte), s.inReset = false → P s → P (s.completeBurst bytes)
  loanReq : ∀ {s : Part}, s.inReset = false → P s → P s.takeLoanReq
  loanRelease : ∀ {s : Part}, s.inReset = false → P s → P s.takeLoanRelease

namespace Part.QuietLaw

variable {P : Part → Prop} (L : Part.QuietLaw P) {s : Part}
include L

/-- The law of a part that runs. -/
theorem keeps_standing {t : Part} (h : s.sameStanding t) (hs : P s ∧ s.inReset = false) :
    P t ∧ t.inReset = false :=
  ⟨L.standing h hs.1, h.1.1.trans hs.2⟩

theorem keeps_answerMessage (p : Port) (body : List Byte) (h : P s ∧ s.inReset = false) :
    P (s.answerMessage p body) ∧ (s.answerMessage p body).inReset = false := by
  have pushed : ∀ (t : Part) (r : Reply), P t ∧ t.inReset = false →
      P (t.pushReply p r) ∧ (t.pushReply p r).inReset = false := fun t r =>
    L.keeps_standing (Part.chans_sameStanding rfl)
  unfold Part.answerMessage
  split
  case h_2 => exact h
  split
  case h_2 => exact pushed s _ h
  unfold Part.answerKnown
  dsimp only
  split
  · have moved := act_action ‹_› p ‹_› s
    exact pushed _ _ ⟨L.action h.2 moved h.1, moved.inReset.trans h.2⟩
  · exact pushed _ _ h

theorem keeps_takeWaiting (p : Port) (n : Nat) (h : P s ∧ s.inReset = false) :
    P (s.takeWaiting p n) ∧ (s.takeWaiting p n).inReset = false := by
  induction n generalizing s with
  | zero => exact h
  | succ n ih =>
    unfold Part.takeWaiting
    split
    · exact h
    split
    · exact ih (L.keeps_answerMessage p _ (L.keeps_standing (Part.chans_sameStanding rfl) h))
    · exact h

theorem keeps_messageComplete (p : Port) (body : List Byte) (h : P s ∧ s.inReset = false) :
    P (s.messageComplete p body) ∧ (s.messageComplete p body).inReset = false := by
  unfold Part.messageComplete
  split
  · exact L.keeps_takeWaiting p _ (L.keeps_standing (Part.chans_sameStanding rfl) h)
  · exact L.keeps_standing ((s.count_sameStanding p _).trans (Part.chans_sameStanding rfl)) h

theorem keeps_receive (p : Port) (b : Byte) (h : P s ∧ s.inReset = false) :
    P (s.receive p b) ∧ (s.receive p b).inReset = false := by
  have received : ∀ r, s.sameStanding (s.setReceiver p r) := fun r => Part.chans_sameStanding rfl
  unfold Part.receive
  dsimp only
  split
  · split
    · exact L.keeps_standing (received _) h
    · exact h
  · split
    · exact L.keeps_standing (received _) h
    · exact L.keeps_standing ((received _).trans (Part.count_sameStanding _ _ _)) h
  · exact L.keeps_standing (received _) h
  · split
    · exact L.keeps_messageComplete p _ (L.keeps_standing (received _) h)
    · exact L.keeps_standing ((received _).trans (Part.count_sameStanding _ _ _)) h

theorem keeps_place (p : Port) (h : P s ∧ s.inReset = false) :
    P (s.place p) ∧ (s.place p).inReset = false := by
  unfold Part.place
  dsimp only
  split
  case h_1 m _ =>
    have sent : s.sameStanding (s.modifyChan p fun c => { c with sender := m.after }) :=
      Part.chans_sameStanding rfl
    unfold Part.sendNext
    dsimp only
    split
    · exact L.keeps_standing (sent.trans (Part.modifyPort_sameStanding _ p rfl rfl rfl)) h
    · exact L.keeps_standing sent h
  case h_2 => exact L.keeps_takeWaiting p _ (L.keeps_standing (Part.chans_sameStanding rfl) h)
  case h_3 => exact L.keeps_standing (Part.chans_sameStanding rfl) h
  case h_4 => exact h

theorem keeps_outboundStart (p : Port) (h : P s ∧ s.inReset = false) :
    P (s.outboundStart p) ∧ (s.outboundStart p).inReset = false :=
  L.keeps_place p (L.keeps_standing
    ((s.readOutbound_sameStanding p).trans (Part.modifyPort_sameStanding _ p rfl rfl rfl)) h)

theorem keeps_setOwing (p : Port) (o : Owing) (h : P s ∧ s.inReset = false) :
    P (s.setOwing p o) ∧ (s.setOwing p o).inReset = false :=
  L.keeps_standing (s.modifyPort_sameStanding p rfl rfl rfl) h

theorem keeps_settleStart (p : Port) (h : P s ∧ s.inReset = false) :
    P (s.settleStart p) ∧ (s.settleStart p).inReset = false := by
  unfold Part.settleStart
  split
  · exact L.keeps_outboundStart p (L.keeps_setOwing p _ h)
  · exact h

theorem keeps_startShare (p : Port) (pulse : Bool) (h : P s ∧ s.inReset = false) :
    P (s.startShare p pulse) ∧ (s.startShare p pulse).inReset = false := by
  unfold Part.startShare
  dsimp only
  split
  · exact L.keeps_outboundStart p (L.keeps_setOwing p _ h)
  · split
    · exact L.keeps_outboundStart p (L.keeps_setOwing p _ h)
    · exact h
  · exact h

end Part.QuietLaw

/-! ### Who is in lock -/

section
variable (s : Part) (q : Port)

@[simp] theorem Part.removeEdits_port (m : Port) (gone : Edit → Bool) (reason : CancelReason) :
    (s.removeEdits m gone reason).port q = s.port q := by
  rw [Part.removeEdits_eq]
  rfl

@[simp] theorem Part.clearCandidate_port (reason : RefReason) :
    (s.clearCandidate reason).port q = s.port q := by
  rw [Part.clearCandidate_eq]
  rfl

theorem Part.frameStart_lock (cause : StartCause) : ((s.frameStart cause).port q).lock = (s.port q).lock := by
  rw [Part.frameStart_port]

theorem Part.loseReference_lock (reason : RefReason) :
    ((s.loseReference reason).port q).lock = (s.port q).lock := by
  unfold Part.loseReference
  dsimp only
  split
  · rw [Part.frameStart_lock]
    rfl
  · rfl

theorem Part.setReferences_lock (list : List Port) (revertive : Bool) :
    ((s.setReferences list revertive).port q).lock = (s.port q).lock := by
  unfold Part.setReferences
  dsimp only
  repeat' split
  all_goals simp [Part.loseReference_lock]

@[simp] theorem Part.startPlay_port (k : Channel) (n : Pattern) : (s.startPlay k n).port q = s.port q := by
  unfold Part.startPlay
  dsimp only
  split <;> rfl

end

/-- The owner of a request moves no lock state. -/
theorem Part.Action.lock {s t : Part} {p : Port} (h : s.Action p t) (q : Port) :
    (t.port q).lock = (s.port q).lock := by
  cases h with
  | setReferences list revertive _ => exact s.setReferences_lock q list revertive
  | setProfile | restart => rw [Part.modifyPort_port]; split <;> simp_all [PortUnit.withProfile]
  | release => rw [Part.removeEdits_port]; rfl
  | play => rw [Part.startPlay_port]
  | _ => rfl

/-- Lock states stay while no port enters or leaves lock. -/
theorem Part.quietLaw_lock (v : Part) : Part.QuietLaw fun s => ∀ q, (s.port q).lock = (v.port q).lock where
  standing h hs q := (h.2 q).trans (hs q)
  action _ h hs q := (h.lock q).trans (hs q)

theorem Part.settleStart_inLock {s : Part} (p q : Port) (running : s.inReset = false) :
    (s.settleStart p).inLock q = s.inLock q := by
  rw [Part.inLock, (s.quietLaw_lock.keeps_settleStart p ⟨fun _ => rfl, running⟩).1 q, Part.inLock]

namespace Part.Law

variable {P : Part → Prop} (L : Part.Law P) {s : Part}
include L

theorem keeps_completeFrame (p : Port) (good : Bool) (rest : List Byte) (hl : s.inLock p = true)
    (h : P s ∧ s.inReset = false) :
    P (s.completeFrame p good rest) ∧ (s.completeFrame p good rest).inReset = false := by
  have locked : ((s.port p).lock.afterEnd good).inLock = true := by
    unfold LockState.afterEnd
    repeat' split
    all_goals rfl
  unfold Part.completeFrame
  dsimp only
  refine L.keeps_standing ((Part.freeCount_sameStanding _ _).trans (Part.writeInbound_sameStanding _ _ _)) ?_
  generalize (s.port p).lock.afterEnd good = after at locked
  have moved := s.modifyPort_sameRecords p (f := fun u =>
    { u with lock := after, position := 0, misplaced := false, received := [] }) rfl rfl
  have others := s.modifyPort_sameLocksBut p fun u =>
    { u with lock := after, position := 0, misplaced := false, received := [] }
  have own : ((s.modifyPort p fun u =>
    { u with lock := after, position := 0, misplaced := false, received := [] }).port p).lock = after := by
      rw [Part.modifyPort_port_self]
  generalize (s.modifyPort p fun u =>
    { u with lock := after, position := 0, misplaced := false, received := [] }) = v at moved others own
  refine ⟨?_, ?_⟩
  · unfold Part.lapseAtEnd
    split
    · exact L.ended (t := v.setLapseTimer p 0) h.2 hl (moved.trans (v.setLapseTimer_sameRecords p 0)) others own
        locked h.1
    · exact L.ended h.2 hl moved others own locked h.1
  · unfold Part.lapseAtEnd
    rw [Part.lockChanged_inReset]
    split <;> exact moved.1.trans h.2

theorem keeps_endFrame (p : Port) (pulse : Bool) (rest : List Byte) (hl : s.inLock p = true)
    (h : P s ∧ s.inReset = false) :
    P (s.endFrame p pulse rest) ∧ (s.endFrame p pulse rest).inReset = false := by
  have judged := L.keeps_standing (s.judged_sameStanding p ((s.port p).goodEnd pulse)) h
  have hl' : (s.judged p ((s.port p).goodEnd pulse)).inLock p = true := by
    rwa [Part.inLock, (s.judged_sameStanding p _).2 p]
  unfold Part.endFrame
  dsimp only
  split
  · exact ⟨L.left _ _ _ judged.2 hl' rfl judged.1, by simpa using judged.2⟩
  split
  · exact ⟨L.left _ _ _ judged.2 hl' rfl judged.1, by simpa using judged.2⟩
  · exact L.keeps_completeFrame p _ rest hl' judged

theorem keeps_completionShare (p : Port) (pulse : Bool) (rest : List Byte) (hl : s.inLock p = true)
    (h : P s ∧ s.inReset = false) :
    P (s.completionShare p pulse rest) ∧ (s.completionShare p pulse rest).inReset = false := by
  have ended := L.keeps_endFrame p pulse rest ((Part.settleStart_inLock p p h.2).trans hl)
    (L.keeps_settleStart p h)
  unfold Part.completionShare
  dsimp only
  split
  · exact L.keeps_setOwing p _ ended
  · exact ended

theorem keeps_wholeEnd (p : Port) (pulse : Bool) (rest : List Byte) (hl : s.inLock p = true)
    (h : P s ∧ s.inReset = false) :
    P (s.wholeEnd p pulse rest) ∧ (s.wholeEnd p pulse rest).inReset = false :=
  L.keeps_settleStart p (L.keeps_completionShare p pulse rest hl h)

theorem keeps_enterLock (p : Port) (sent : Nat) (deferStart : Bool) (hl : s.inLock p = false)
    (h : P s ∧ s.inReset = false) :
    P (s.enterLock p sent deferStart) ∧ (s.enterLock p sent deferStart).inReset = false := by
  have entered : ∀ (f : PortUnit → PortUnit) (before : LockState),
      (f (s.port p)).profile = (s.port p).profile →
      P (((s.modifyPort p f).setLapseTimer p 0).raisePortState p before .frameFound) := fun f _ hf =>
    L.standing (Part.raise_sameStanding _ _) (L.found h.2 hl
      ((s.modifyPort_sameRecords p (by rw [hf]) (by rw [hf])).trans (Part.setLapseTimer_sameRecords _ p 0))
      (s.modifyPort_sameLocksBut p f) h.1)
  unfold Part.enterLock
  dsimp only
  split
  · exact ⟨entered _ _ rfl, h.2⟩
  · exact L.keeps_outboundStart p ⟨entered _ _ rfl, h.2⟩

/-- A port out of lock comes to another lock state out of lock. -/
theorem keeps_modifyPort_found (p : Port) (f : PortUnit → PortUnit) (hf : (f (s.port p)).profile = (s.port p).profile)
    (hl : s.inLock p = false) (h : P s ∧ s.inReset = false) : P (s.modifyPort p f) :=
  L.found h.2 hl (s.modifyPort_sameRecords p (by rw [hf]) (by rw [hf])) (s.modifyPort_sameLocksBut p f) h.1

theorem keeps_pulse (p : Port) (place : PulsePlace) (deferStart : Bool) (h : P s ∧ s.inReset = false) :
    P (s.pulse p place deferStart) := by
  unfold Part.pulse
  dsimp only
  split
  case h_1 => exact h.1
  case h_2 l => exact L.keeps_modifyPort_found p _ rfl (by simp [Part.inLock, l, LockState.inLock]) h
  case h_3 l =>
    have out : s.inLock p = false := by simp [Part.inLock, l, LockState.inLock]
    split
    · split
      · exact (L.keeps_enterLock p _ _ out h).1
      · exact L.keeps_modifyPort_found p _ rfl out h
    split
    · exact L.keeps_modifyPort_found p _ rfl out h
    · exact h.1
  case h_4 | h_5 =>
    split
    · exact L.standing (s.modifyPort_sameStanding p rfl rfl rfl) h.1
    · exact h.1

/-- Every event of a part that runs keeps the law. -/
theorem keeps_event {t : Part} (e : s.Event t) (h : P s ∧ s.inReset = false) : P t := by
  cases e with
  | nothing => exact h.1
  | frameStart cause _ => exact L.frameStart cause h.2 h.1
  | lapse l cause =>
    have lapsed : ∀ (ps : List Port) (v : Part), P v ∧ v.inReset = false →
        P (ps.foldl Part.lapseAhead v) ∧ (ps.foldl Part.lapseAhead v).inReset = false := by
      intro ps
      induction ps with
      | nil => exact fun v hv => hv
      | cons p ps ih =>
        intro v hv
        refine ih _ ⟨L.lapseAhead p hv.2 hv.1, ?_⟩
        rw [Part.lapseAhead_eq]
        exact hv.2
    obtain ⟨ahead, running⟩ := lapsed (l.port :: l.also) s h
    exact L.frameStart cause running ahead
  | clockFound p dark =>
    exact L.standing (Part.raise_sameStanding _ _)
      (L.keeps_modifyPort_found p _ rfl (by simp [Part.inLock, dark, LockState.inLock]) h)
  | clockLost p level before out =>
    exact L.standing (Part.raise_sameStanding _ _) (L.keeps_modifyPort_found p _ rfl out h)
  | clockWatch p level hl => exact L.left _ _ _ h.2 hl rfl h.1
  | pulse p place deferStart => exact L.keeps_pulse p place deferStart h
  | missingPulse p good l =>
    exact L.keeps_modifyPort_found p _ rfl (by simp [Part.inLock, l, LockState.inLock]) h
  | wholeEnd p pulse rest hl => exact (L.keeps_wholeEnd p pulse rest hl h).1
  | completionShare p pulse rest hl => exact (L.keeps_completionShare p pulse rest hl h).1
  | startShare p pulse _ => exact (L.keeps_startShare p pulse h).1
  | controlByte p earlier b _ =>
    exact (L.keeps_receive p b (L.keeps_standing (s.modifyPort_sameStanding p rfl rfl rfl) h)).1
  | message p body _ => exact (L.keeps_messageComplete p body h).1
  | arbitrate => exact L.arbitrate h.2 h.1
  | completeBurst bytes => exact L.completeBurst bytes h.2 h.1
  | loanReq => exact L.loanReq h.2 (L.standing (s.setLoanReq_sameStanding true) h.1)
  | loanRelease => exact L.loanRelease h.2 (L.standing (s.setLoanReq_sameStanding false) h.1)
  | tick => exact L.standing s.tick_sameStanding h.1

/-- Every step keeps the law. -/
theorem keeps_step {s t : State} (hs : P s.part) (h : step s = .next t) : P t.part := by
  rcases step_stepsTo h with ⟨inReset, same | ⟨x, released⟩ | ⟨level, set⟩⟩ | ⟨running, held | event⟩
  · rwa [same]
  · rw [released]; exact L.release x inReset hs
  · rw [set]; exact L.standing (s.part.setLoanReq_sameStanding level) hs
  · rw [held]; exact L.held hs
  · exact L.keeps_event event ⟨hs, running⟩

end Part.Law

end Sys2Proof.Machine
end

section
/-! What the events of the pattern memory and the effects of a pending action move, and which blocks they leave alone
(R48, R49, R103, R104, R145 to R147, R160 to R165). -/

namespace Sys2Proof.Machine

open Sys2Proof

section
variable (s : Part)

/-! ### The pattern memory -/

/-- The arbiter's choice moves the playback unit and the memory port alone. -/
theorem Part.arbitrate_eq : s.arbitrate = { s with play := s.arbitrate.play, mem := s.arbitrate.mem } := by
  unfold Part.arbitrate
  split
  · split
    · rfl
    · split
      · rfl
      · dsimp only
        split <;> rfl
  · rfl

/-- Halts move the channel records and the notice queues alone. -/
theorem Part.halts_eq (ks : List Channel) (r : HaltReason) :
    ks.foldl (fun d k => d.haltWithNotice k r) s = { s with
      play := (ks.foldl (fun d k => d.haltWithNotice k r) s).play
      chans := (ks.foldl (fun d k => d.haltWithNotice k r) s).chans } := by
  induction ks generalizing s with
  | nil => rfl
  | cons k ks ih =>
    have h := ih (s.haltWithNotice k r)
    rw [List.foldl_cons]
    generalize ks.foldl (fun d k => d.haltWithNotice k r) (s.haltWithNotice k r) = t at h ⊢
    rw [h, Part.haltWithNotice_eq]

theorem Part.primes_eq (ks : List Channel) (d : Descriptor) :
    ks.foldl (fun (s : Part) k => s.setChannel k ((s.channel k).prime d)) s = { s with
      play := (ks.foldl (fun (s : Part) k => s.setChannel k ((s.channel k).prime d)) s).play } := by
  induction ks generalizing s with
  | nil => rfl
  | cons k ks ih =>
    have h := ih (s.setChannel k ((s.channel k).prime d))
    rw [List.foldl_cons]
    generalize ks.foldl (fun (s : Part) k => s.setChannel k ((s.channel k).prime d)) _ = t at h ⊢
    rw [h]
    rfl

/-- The completion of a fetch moves the playback unit and the notice queues alone. -/
theorem Part.fetchCompleted_eq (n : Pattern) (record : List Byte) :
    s.fetchCompleted n record = { s with
      play := (s.fetchCompleted n record).play, chans := (s.fetchCompleted n record).chans } := by
  unfold Part.fetchCompleted
  dsimp only
  split
  · rw [Part.primes_eq]
    rfl
  · rw [Part.halts_eq]
    rfl

theorem Part.deliver_eq (b : Burst) (bytes : List Byte) :
    s.deliver b bytes = { s with play := (s.deliver b bytes).play, chans := (s.deliver b bytes).chans } := by
  unfold Part.deliver
  split
  · rw [Part.fetchCompleted_eq]
  · rfl

/-- The end of a burst moves the playback unit, the memory port, the notice queues and the count of free values
alone. -/
theorem Part.completeBurst_eq (bytes : List Byte) :
    s.completeBurst bytes = { s with
      play := (s.completeBurst bytes).play, mem := (s.completeBurst bytes).mem
      chans := (s.completeBurst bytes).chans, freeCount := (s.completeBurst bytes).freeCount } := by
  unfold Part.completeBurst
  split
  · rfl
  · dsimp only
    rw [Part.deliver_eq]
    split <;> rfl

theorem Part.returned_eq : s.returned = { s with
    play := s.returned.play, mem := s.returned.mem, chans := s.returned.chans
    freeCount := s.returned.freeCount } := by
  unfold Part.returned
  dsimp only
  rw [Part.arbitrate_eq, Part.halts_eq]
  rfl

theorem Part.takeLoanReq_eq : s.takeLoanReq = { s with
    mem := s.takeLoanReq.mem, chans := s.takeLoanReq.chans } := by
  unfold Part.takeLoanReq
  split
  · rfl
  · split <;> rfl

theorem Part.takeLoanRelease_eq : s.takeLoanRelease = { s with
    play := s.takeLoanRelease.play, mem := s.takeLoanRelease.mem, chans := s.takeLoanRelease.chans
    freeCount := s.takeLoanRelease.freeCount } := by
  unfold Part.takeLoanRelease
  split
  · rfl
  · split
    · rfl
    · rw [Part.returned_eq]
    all_goals rfl

/-- The end of device reset moves the reset flag, the port units, the reference record, the memory port and the
notice queues alone. -/
theorem Part.release_eq (x : Straps) : s.release x = { s with
    inReset := false, ports := (s.sampleStraps x).ports, ref := (s.sampleStraps x).ref
    mem := (s.release x).mem, chans := (s.release x).chans } := by
  unfold Part.release
  dsimp only
  split
  · rw [Part.takeLoanReq_eq]
    rfl
  · rfl

/-! ### The pending action -/

/-- Settling the edits of the masters moves the lists and the notice queues alone. -/
theorem Part.settleAll_eq (t : ClaimUnit) (p : Port) (n : SlotCount) (c : ControlSlot) (ms : List Port) :
    ms.foldl (Part.settleEdits t p n c) s = { s with
      lists := (ms.foldl (Part.settleEdits t p n c) s).lists
      chans := (ms.foldl (Part.settleEdits t p n c) s).chans } := by
  induction ms generalizing s with
  | nil => rfl
  | cons m ms ih =>
    have h := ih (Part.settleEdits t p n c s m)
    rw [List.foldl_cons]
    generalize ms.foldl (Part.settleEdits t p n c) (Part.settleEdits t p n c s m) = v at h ⊢
    rw [h, Part.settleEdits, Part.removeEdits_eq]

/-- A structural change in effect: the profile, the map, the held slots, the lists and the notice queues. -/
theorem Part.profileEffect_eq (p : Port) (n : SlotCount) (c : ControlSlot) :
    s.profileEffect p n c = { s with
      ports := s.ports.modify p fun u =>
        { u with profile := { u.profile with slotCount := n, controlSlot := c }, action := none }
      exch := s.exch.resetAffected p n c
      claims := s.claims.endAffected p n c
      lists := (s.profileEffect p n c).lists, chans := (s.profileEffect p n c).chans } := by
  unfold Part.profileEffect
  dsimp only
  rw [Part.settleAll_eq]
  rfl

theorem Part.actionEffect_eq (p : Port) :
    s.actionEffect p = { s with
      ports := (s.actionEffect p).ports, exch := (s.actionEffect p).exch, claims := (s.actionEffect p).claims
      lists := (s.actionEffect p).lists, chans := (s.actionEffect p).chans } := by
  unfold Part.actionEffect
  split
  · rfl
  · rw [Part.profileEffect_eq]
  · rfl

theorem Part.profileEffect_port (p q : Port) (n : SlotCount) (c : ControlSlot) :
    (s.profileEffect p n c).port q = if q = p then
      { s.port p with profile := { (s.port p).profile with slotCount := n, controlSlot := c }, action := none }
      else s.port q := by
  rw [Part.profileEffect_eq]
  exact Bank.get_modify ..

theorem Part.actionEffect_lock (p q : Port) : ((s.actionEffect p).port q).lock = (s.port q).lock := by
  unfold Part.actionEffect
  split
  · rfl
  · rw [Part.profileEffect_port]
    split <;> simp_all
  · show ((s.modifyPort p _).port q).lock = _
    rw [Part.modifyPort_port]
    split <;> simp_all

end

end Sys2Proof.Machine
end

section
/-! Chapter 5, the laws of the reference record (R68, R69, R73, R79, R82, R85): each event of the reference unit keeps
them, and so every step does. -/

namespace Sys2Proof.Machine

open Sys2Proof

/-- The laws of a reference record at ports with these lock states. -/
structure RefUnit.lawfulAt (r : RefUnit) (lock : Port → LockState) : Prop where
  modes : r.lawful
  held : r.heldInRange
  count : r.countLawful
  distinct : r.list.Nodup
  candidate : ∀ c, r.candidate = some c → c ∈ r.list ∧ lock c = .locked ∧ r.tracked ≠ some c
  tracked : ∀ q, r.tracked = some q → q ∈ r.list ∧ (lock q).inLock = true

/-- The lock states of the ports. -/
def Part.locks (s : Part) (p : Port) : LockState := (s.port p).lock

theorem Part.referenceLawful_iff (s : Part) :
    s.referenceLawful ↔ s.ref.lawfulAt s.locks ∧ (s.inReset = true → s.ref.mode = .free) :=
  ⟨fun ⟨modes, held, count, distinct, candidate, tracked, reset⟩ =>
      ⟨⟨modes, held, count, distinct, candidate, tracked⟩, reset⟩,
    fun ⟨⟨modes, held, count, distinct, candidate, tracked⟩, reset⟩ =>
      ⟨modes, held, count, distinct, candidate, tracked, reset⟩⟩

/-- A part that runs keeps the laws where its record does. -/
theorem Part.referenceLawful_of_running {s : Part} (running : s.inReset = false)
    (h : s.ref.lawfulAt s.locks) : s.referenceLawful :=
  s.referenceLawful_iff.mpr ⟨h, fun hr => by rw [running] at hr; contradiction⟩

section
variable {r : RefUnit} {lock : Port → LockState} (h : r.lawfulAt lock)
include h

theorem RefUnit.lawfulAt.of_locks {lock' : Port → LockState} (candidate : ∀ c, r.candidate = some c → lock' c = lock c)
    (tracked : ∀ q, r.tracked = some q → (lock' q).inLock = (lock q).inLock) : r.lawfulAt lock' where
  modes := h.modes
  held := h.held
  count := h.count
  distinct := h.distinct
  candidate c hc := by rw [candidate c hc]; exact h.candidate c hc
  tracked q hq := by rw [tracked q hq]; exact h.tracked q hq

theorem RefUnit.lawfulAt.timed (n : Nat) : ({ r with timer := n } : RefUnit).lawfulAt lock :=
  ⟨h.modes, h.held, h.count, h.distinct, h.candidate, h.tracked⟩

/-- A record with no candidate keeps the laws where the mode has none. -/
theorem RefUnit.lawfulAt.uncandidated (hm : r.mode ≠ .qualify) :
    ({ r with candidate := none, count := 0 } : RefUnit).lawfulAt lock where
  modes := by
    obtain ⟨track, tracked, -, -, free, holdover, -⟩ := h.modes
    exact ⟨track, tracked, fun m => absurd m hm, fun _ => rfl, free, holdover, fun _ _ => rfl⟩
  held := h.held
  count := ⟨Nat.zero_lt_succ _, fun _ => rfl⟩
  distinct := h.distinct
  candidate := nofun
  tracked := h.tracked

/-- The measurement of a start replaces the held period in its range only, and only in TRACKING (R72). -/
theorem RefUnit.lawfulAt.started (cause : StartCause) : (r.started cause).lawfulAt lock := by
  have measured : r.heldAfter cause = r.held
      ∨ r.mode = .tracking ∧ 2028 ≤ r.timer ∧ r.timer ≤ 2068 ∧ r.heldAfter cause = some r.timer := by
    unfold RefUnit.heldAfter
    split
    case isTrue c =>
      simp only [Bool.and_eq_true, decide_eq_true_eq] at c
      refine .inr ⟨?_, c.1.2, c.2, rfl⟩
      cases cause with
      | localTimer => simp [RefUnit.measures] at c
      | frameStart q => simp only [RefUnit.measures, Bool.and_eq_true, beq_iff_eq] at c; exact c.1.1.1.1.1
    case isFalse => exact .inl rfl
  obtain ⟨track, tracked, qualify, none, free, holdover, flag⟩ := h.modes
  refine ⟨⟨track, tracked, qualify, none, ?_, ?_, flag⟩, ?_, h.count, h.distinct, h.candidate, h.tracked⟩
  · intro m
    rcases measured with same | ⟨m', -⟩
    · exact same.trans (free m)
    · rw [show r.mode = .free from m] at m'; cases m'
  · intro m
    rcases measured with same | ⟨m', -⟩
    · exact (congrArg Option.isSome same).trans (holdover m)
    · rw [show r.mode = .holdover from m] at m'; cases m'
  · intro n hn
    rcases measured with same | ⟨-, low, high, taken⟩
    · exact h.held n (same.symm.trans hn)
    · obtain rfl := Option.some.inj (taken.symm.trans hn)
      exact ⟨low, high⟩

/-- Out of QUALIFY the mode becomes that of the held period (R74, R82). -/
theorem RefUnit.lawfulAt.unqualified (hm : r.mode = .qualify) (lock' : Port → LockState) :
    ({ r with mode := r.fallback, candidate := none, count := 0 } : RefUnit).lawfulAt lock' where
  modes := by
    obtain ⟨track, tracked, -⟩ := h.modes
    rw [hm] at track tracked
    simp only [RefUnit.lawful, RefUnit.fallback]
    cases hh : r.held <;> simp_all
  held := h.held
  count := ⟨Nat.zero_lt_succ _, fun _ => rfl⟩
  distinct := h.distinct
  candidate := nofun
  tracked q hq := by
    obtain ⟨-, tracked, -⟩ := h.modes
    simp_all

/-- The 64th start switches to the candidate (R75, R79). -/
theorem RefUnit.lawfulAt.switched {p : Port} (hp : r.candidate = some p) :
    ({ r with
      mode := .tracking, tracked := some p, candidate := none, count := 0
      realigning := true, track := true } : RefUnit).lawfulAt lock where
  modes := by simp [RefUnit.lawful]
  held := h.held
  count := ⟨Nat.zero_lt_succ _, fun _ => rfl⟩
  distinct := h.distinct
  candidate := nofun
  tracked q hq := by
    obtain rfl := Option.some.inj hq
    obtain ⟨listed, locked, -⟩ := h.candidate p hp
    exact ⟨listed, by rw [locked]; rfl⟩

theorem RefUnit.lawfulAt.counted (hc : r.candidate.isSome = true) (short : r.count + 1 ≠ 64) :
    ({ r with count := r.count + 1 } : RefUnit).lawfulAt lock where
  modes := h.modes
  held := h.held
  count := ⟨by have := h.count.1; show r.count + 1 < 64; omega, fun hn => by
    rw [show r.candidate = none from hn] at hc; contradiction⟩
  distinct := h.distinct
  candidate := h.candidate
  tracked := h.tracked

/-- A LOCKED port of the list, other than the tracked one, becomes the candidate: in QUALIFY, or in TRACKING with the
revertive flag ON (R73, R79). -/
theorem RefUnit.lawfulAt.chosen {p : Port} (listed : p ∈ r.list) (locked : lock p = .locked)
    (other : r.tracked ≠ some p) {m : RefMode}
    (hm : m = .qualify ∧ r.mode ≠ .tracking ∨ m = .tracking ∧ r.mode = .tracking ∧ r.revertive = true) :
    ({ r with mode := m, candidate := some p, count := 0 } : RefUnit).lawfulAt lock where
  modes := by
    obtain ⟨track, tracked, -⟩ := h.modes
    rcases hm with ⟨rfl, hm⟩ | ⟨rfl, hm, hv⟩ <;> simp_all [RefUnit.lawful]
  held := h.held
  count := ⟨Nat.zero_lt_succ _, nofun⟩
  distinct := h.distinct
  candidate c hc := by
    obtain rfl := Option.some.inj hc
    exact ⟨listed, locked, other⟩
  tracked := h.tracked

/-- A replaced list and flag are lawful where they admit the tracked port and the candidate (R82). -/
theorem RefUnit.lawfulAt.relisted {list : List Port} {revertive : Bool} (distinct : list.Nodup)
    (tracked : ∀ q, r.tracked = some q → q ∈ list) (candidate : ∀ c, r.candidate = some c → c ∈ list)
    (flag : r.mode = .tracking → revertive = false → r.candidate = none) :
    ({ r with list := list, revertive := revertive } : RefUnit).lawfulAt lock where
  modes := by
    obtain ⟨track, tracking, qualify, none, free, holdover, -⟩ := h.modes
    exact ⟨track, tracking, qualify, none, free, holdover, flag⟩
  held := h.held
  count := h.count
  distinct := distinct
  candidate c hc := ⟨candidate c hc, (h.candidate c hc).2⟩
  tracked q hq := ⟨tracked q hq, (h.tracked q hq).2⟩

end

/-- After a loss the record has neither a tracked port nor a candidate, and its mode is that of its held period
(R78). -/
theorem RefUnit.lost_lawfulAt {r : RefUnit} (held : r.heldInRange) (distinct : r.list.Nodup)
    (lock : Port → LockState) : r.lost.lawfulAt lock where
  modes := by
    simp only [RefUnit.lawful, RefUnit.lost, RefUnit.fallback]
    cases r.held <;> simp
  held := held
  count := ⟨Nat.zero_lt_succ _, fun _ => rfl⟩
  distinct := distinct
  candidate := nofun
  tracked := nofun

/-! ### Selection (R73, R75, R79) -/

/-- The port that selection finds is a LOCKED port of the list and not the tracked one; in TRACKING it is found with
the revertive flag ON only. -/
theorem Part.found_spec {s : Part} {p : Port} (hr : (s.ref.tracked.isSome = true ↔ s.ref.mode = .tracking))
    (hf : s.found = some p) :
    p ∈ s.ref.list ∧ (s.port p).lock = .locked ∧ s.ref.tracked ≠ some p
      ∧ (s.ref.mode = .tracking → s.ref.revertive = true) := by
  by_cases hm : s.ref.mode = .tracking
  · simp only [Part.found, hm] at hf
    split at hf
    case isFalse => contradiction
    case isTrue flag =>
      have locked := List.find?_some hf
      have ahead := List.mem_of_find?_eq_some hf
      exact ⟨(List.takeWhile_prefix _).subset ahead, by simpa using locked,
        by simpa using List.mem_takeWhile_imp ahead, fun _ => flag⟩
  · rw [Part.found_of_not_tracking hm] at hf
    have locked := List.find?_some hf
    have absent : s.ref.tracked = none := by
      cases ht : s.ref.tracked with
      | none => rfl
      | some q => exact absurd (hr.mp (by rw [ht]; rfl)) hm
    exact ⟨List.mem_of_find?_eq_some hf, by simpa using locked, by simp [absent], fun h => absurd h hm⟩

theorem Part.select_lawfulAt {s : Part} (h : s.ref.lawfulAt s.locks) : s.select.ref.lawfulAt s.locks := by
  cases hf : s.found with
  | none =>
    by_cases hm : s.ref.mode = .tracking
    · simp only [Part.select, hf]
      split
      case h_1 =>
        split
        · exact h.uncandidated (by simp [hm])
        · exact h
      all_goals exact h
    · rw [Part.select_of_not_found hm hf]
      exact h
  | some p =>
    obtain ⟨listed, locked, other, flag⟩ := Part.found_spec h.modes.2.1 hf
    by_cases hc : s.ref.candidate = some p
    · by_cases full : s.ref.count + 1 = 64
      · rw [Part.select_qualified hf hc full]
        exact h.switched hc
      · rw [Part.select_candidate hf hc full]
        exact h.counted (by rw [hc]; rfl) full
    · rw [Part.select_other hf hc]
      by_cases hm : s.ref.mode = .tracking
      · have chosen := h.chosen listed locked other (.inr ⟨rfl, hm, flag hm⟩)
        rw [← hm] at chosen
        unfold Part.choose
        split
        case h_1 m | h_2 m => rw [hm] at m; cases m
        all_goals exact chosen
      · rw [Part.choose_ref hm]
        exact h.chosen listed locked other (.inl ⟨rfl, hm⟩)

theorem Part.frameStart_referenceLawful {s : Part} (cause : StartCause) (running : s.inReset = false)
    (h : s.ref.lawfulAt s.locks) : (s.frameStart cause).referenceLawful := by
  refine Part.referenceLawful_of_running (by simpa using running) ?_
  have locks : (s.frameStart cause).locks = s.locks := funext fun p => s.frameStart_lock p cause
  have before : (s.beforeSelection cause).locks = s.locks := funext fun p => s.beforeSelection_lock cause p
  rw [locks, Part.frameStart_eq_select, ← before]
  exact Part.select_lawfulAt (by rw [before, Part.beforeSelection_ref]; exact h.started cause)

/-! ### Losses and clearings (R74, R78, R82) -/

theorem Part.loseReference_referenceLawful {s : Part} (reason : RefReason) (running : s.inReset = false)
    (held : s.ref.heldInRange) (distinct : s.ref.list.Nodup) : (s.loseReference reason).referenceLawful := by
  unfold Part.loseReference
  dsimp only
  split
  · exact Part.frameStart_referenceLawful _ running (RefUnit.lost_lawfulAt held distinct _)
  · exact Part.referenceLawful_of_running running (RefUnit.lost_lawfulAt held distinct _)

/-- The clearing of a candidate leaves a lawful record at any lock states at which the tracked port is in lock. -/
theorem Part.clearCandidate_referenceLawful {s : Part} {lock : Port → LockState} (reason : RefReason)
    (running : s.inReset = false) (h : s.ref.lawfulAt lock)
    (tracked : ∀ q, s.ref.tracked = some q → (s.locks q).inLock = (lock q).inLock) :
    (s.clearCandidate reason).referenceLawful := by
  refine Part.referenceLawful_of_running (by simpa using running) ?_
  have locks : (s.clearCandidate reason).locks = s.locks := funext fun p => by simp [Part.locks]
  rw [locks]
  unfold Part.clearCandidate
  split
  case h_1 hm => exact h.unqualified hm _
  all_goals exact (h.uncandidated (by simp [*])).of_locks nofun tracked

/-- A change of the lock state of a port in lock reaches the reference unit, which keeps its laws (R74, R78). -/
theorem Part.lockChanged_referenceLawful {s t : Part} {p : Port} {after : LockState} (running : s.inReset = false)
    (hl : s.inLock p = true) (resets : t.inReset = s.inReset) (ref : t.ref = { s.ref with timer := t.ref.timer }) (others : s.sameLocksBut t p)
    (own : (t.port p).lock = after) (h : s.ref.lawfulAt s.locks) :
    (t.lockChanged p (s.port p).lock after).referenceLawful := by
  have running' : t.inReset = false := resets.trans running
  have ht : t.ref.lawfulAt s.locks := by rw [ref]; exact h.timed _
  have elsewhere : ∀ q, q ≠ p → t.locks q = s.locks q := others
  unfold Part.lockChanged
  split
  case isTrue cleared =>
    refine Part.clearCandidate_referenceLawful _ running' ht fun q hq => ?_
    rw [elsewhere q]
    rintro rfl
    exact (ht.candidate q cleared.1).2.2 hq
  case isFalse kept =>
    split
    case isTrue => exact Part.loseReference_referenceLawful _ running' ht.held ht.distinct
    case isFalse stays =>
      refine Part.referenceLawful_of_running running' (ht.of_locks (fun c hc => ?_) fun q hq => ?_)
      · by_cases hp : c = p
        · subst c
          have before : (s.port p).lock = .locked := (ht.candidate p hc).2.1
          have same : after = .locked := by_contra fun hn => kept ⟨hc, before, hn⟩
          rw [Part.locks, own, same, Part.locks, before]
        · exact elsewhere c hp
      · by_cases hp : q = p
        · subst q
          have mode : t.ref.mode = .tracking := ht.modes.2.1.mp (by rw [hq]; rfl)
          have still : after.inLock = true := by_contra fun hn => stays ⟨mode, hq, hl, by simpa using hn⟩
          rw [Part.locks, own, still]
          exact hl.symm
        · rw [elsewhere q hp]

/-! ### SET_REFERENCES (R81, R82) -/

theorem Part.setReferences_referenceLawful {s : Part} {list : List Port} {revertive : Bool}
    (running : s.inReset = false) (distinct : list.Nodup) (h : s.ref.lawfulAt s.locks) :
    (s.setReferences list revertive).referenceLawful := by
  have untracked : s.ref.mode ≠ .tracking → ∀ q, s.ref.tracked ≠ some q := fun hm q hq =>
    hm (h.modes.2.1.mp (by rw [hq]; rfl))
  unfold Part.setReferences
  dsimp only
  split
  case h_1 hm =>
    split
    case isTrue => exact Part.loseReference_referenceLawful _ running h.held distinct
    case isFalse listed =>
      have tracked : ∀ q, s.ref.tracked = some q → q ∈ list := fun q hq => by simpa [hq] using listed
      split
      case isTrue =>
        refine Part.referenceLawful_of_running (by simpa using running) ?_
        have cleared := (h.uncandidated (by simp [hm])).relisted (revertive := revertive) distinct tracked nofun
          fun _ _ => rfl
        simp only [Part.clearCandidate, Part.setRef_ref, hm] at cleared ⊢
        exact cleared
      case isFalse kept =>
        simp only [Bool.and_eq_true, Bool.or_eq_true, not_and, not_or] at kept
        refine Part.referenceLawful_of_running running (h.relisted distinct tracked (fun c hc => ?_) ?_)
        · simpa [hc] using (kept (by simp [hc])).1
        · intro _ off
          by_contra hc
          simpa [off] using (kept (Option.isSome_iff_ne_none.mpr hc)).2
  case h_2 hm =>
    have tracked : ∀ q, s.ref.tracked = some q → q ∈ list := fun q hq =>
      absurd hq (untracked (by simp [hm]) q)
    split
    case isTrue =>
      refine Part.referenceLawful_of_running (by simpa using running) ?_
      have cleared := (h.unqualified hm s.locks).relisted (revertive := revertive) distinct tracked nofun
        fun _ _ => rfl
      simp only [Part.clearCandidate, Part.setRef_ref, hm] at cleared ⊢
      exact cleared
    case isFalse listed =>
      exact Part.referenceLawful_of_running running (h.relisted distinct tracked
        (fun c hc => by simpa [hc] using listed) fun m => by rw [hm] at m; cases m)
  case h_3 hm | h_4 hm =>
    have none : s.ref.candidate = none := h.modes.2.2.2.1 (by simp [hm])
    exact Part.referenceLawful_of_running running (h.relisted distinct
      (fun q hq => absurd hq (untracked (by simp [hm]) q)) (by simp [none]) fun _ _ => none)

/-! ### Every step -/

/-- Blocks other than the reference unit and the lock states leave the laws of the record alone. -/
theorem Part.referenceLawful_of_ref {s t : Part} (resets : t.inReset = s.inReset)
    (ref : t.ref = { s.ref with timer := t.ref.timer }) (locks : ∀ q, (t.port q).lock = (s.port q).lock)
    (h : s.referenceLawful) : t.referenceLawful := by
  obtain ⟨record, reset⟩ := s.referenceLawful_iff.mp h
  refine t.referenceLawful_iff.mpr ⟨?_, fun hr => ?_⟩
  · rw [ref, show t.locks = s.locks from funext locks]
    exact record.timed _
  · rw [ref]
    exact reset (resets ▸ hr)

/-- The reference record moves by SET_REFERENCES only (R81). -/
theorem Part.Action.ref_or {s t : Part} {p : Port} (h : s.Action p t) :
    t.ref = s.ref ∨ ∃ list revertive, list.Nodup ∧ t = s.setReferences list revertive := by
  cases h with
  | setReferences list revertive distinct => exact .inr ⟨list, revertive, distinct, rfl⟩
  | release => rw [Part.removeEdits_eq]; exact .inl rfl
  | play k n =>
    unfold Part.startPlay
    dsimp only
    split <;> exact .inl rfl
  | _ => exact .inl rfl

theorem Part.dropLock_ref (s : Part) (p : Port) (dest : LockState) (dout : Dout) (counted : Bool) :
    (s.dropLock p dest dout counted).ref = s.ref := rfl

/-- The lock states after a leaving of lock, before the reference unit hears of it. -/
theorem Part.dropLock_lock (s : Part) (p q : Port) (dest : LockState) (dout : Dout) (counted : Bool) :
    ((s.dropLock p dest dout counted).port q).lock = if q = p then dest else (s.port q).lock := by
  show ((s.modifyPort p _).port q).lock = _
  rw [Part.modifyPort_port]
  split <;> rfl

/-- The laws of the record are kept by every event of the part. -/
theorem Part.referenceLaw : Part.Law Part.referenceLawful where
  standing h hs := Part.referenceLawful_of_ref h.1.1 h.1.2.1 h.2 hs
  action {s t p} running e hs := by
    rcases e.ref_or with same | ⟨list, revertive, distinct, rfl⟩
    · exact Part.referenceLawful_of_ref e.inReset (by rw [same]) e.lock hs
    · exact Part.setReferences_referenceLawful running distinct (s.referenceLawful_iff.mp hs).1
  held {s} _ := by
    have reset : RefUnit.reset.lawful ∧ RefUnit.reset.countLawful := by decide
    exact ⟨reset.1, nofun, reset.2, List.nodup_nil, nofun, nofun, fun _ => rfl⟩
  release {s} x inReset hs := by
    obtain ⟨record, reset⟩ := s.referenceLawful_iff.mp hs
    have free := reset inReset
    have none : s.ref.candidate = none := record.modes.2.2.2.1 (.inl free)
    have untracked : ∀ q, s.ref.tracked ≠ some q := fun q hq => by
      have := record.modes.2.1.mp (by rw [hq]; rfl)
      rw [free] at this
      cases this
    refine Part.referenceLawful_of_running (by rw [Part.release_eq]) ?_
    have ref : (s.release x).ref = { s.ref with list := strapRefList x, timer := 0 } := by
      rw [Part.release_eq]; rfl
    have distinct : (strapRefList x).Nodup := by
      unfold strapRefList
      split <;> simp
    rw [ref]
    exact (((record.of_locks (by simp [none]) (by simp [untracked])).relisted distinct
      (by simp [untracked]) (by simp [none]) fun _ _ => none).timed 0)
  frameStart {s} cause running hs :=
    Part.frameStart_referenceLawful cause running (s.referenceLawful_iff.mp hs).1
  lapseAhead p _ hs := by
    rw [Part.lapseAhead_eq]
    exact hs
  found {s t p} running out records others hs := by
    obtain ⟨record, -⟩ := s.referenceLawful_iff.mp hs
    refine Part.referenceLawful_of_running (records.1.trans running) ?_
    rw [records.2.1]
    refine (record.of_locks (fun c hc => others c ?_) fun q hq => congrArg _ (others q ?_)).timed _
    · rintro rfl
      have locked : (s.port c).lock = .locked := (record.candidate c hc).2.1
      rw [Part.inLock, locked] at out
      cases out
    · rintro rfl
      exact absurd (record.tracked q hq).2 (by simpa [Part.inLock, Part.locks] using out)
  ended {s t p after} running hl records others own _ hs := by
    exact Part.lockChanged_referenceLawful running hl records.1 records.2.1 others own
      (s.referenceLawful_iff.mp hs).1
  left {s p dest} dout cause counted running hl _ hs := by
    refine Part.lockChanged_referenceLawful running hl ?_ ?_ ?_ ?_ (s.referenceLawful_iff.mp hs).1
    · simp [Part.dropLock]
    · rw [Part.raisePortState_ref, Part.actionEffect_eq, Part.dropLock_ref]
    · intro q hq
      rw [Part.raisePortState_port, Part.actionEffect_lock, Part.dropLock_lock, if_neg hq]
    · rw [Part.raisePortState_port, Part.actionEffect_lock, Part.dropLock_lock, if_pos rfl]
  arbitrate _ hs := by
    rw [Part.arbitrate_eq]
    exact hs
  completeBurst bytes _ hs := by
    rw [Part.completeBurst_eq]
    exact hs
  loanReq _ hs := by
    rw [Part.takeLoanReq_eq]
    exact hs
  loanRelease _ hs := by
    rw [Part.takeLoanRelease_eq]
    exact hs

/-- Settles O57: each event of the part keeps the laws of the reference record, and a step is one event. -/
theorem everyStepKeepsTheReferenceLaws : Obligations.EveryStepKeepsTheReferenceLaws :=
  fun _ _ => Part.referenceLaw.keeps_step

end Sys2Proof.Machine
end

section
/-! Chapters 1 to 3, the laws of the map, the claims and the staging lists (R3, R19, R34, R35): each event that writes
one of them keeps them, and so every step does. -/

namespace Sys2Proof.Machine

open Sys2Proof

/-- `t` has the map, the holders, the lists and the slot settings of `s`. -/
def Part.sameRoutes (s t : Part) : Prop :=
  t.inReset = s.inReset ∧ t.exch.map = s.exch.map ∧ t.claims.holder = s.claims.holder ∧ t.lists = s.lists
    ∧ ∀ p, (t.port p).profile.slotCount = (s.port p).profile.slotCount
        ∧ (t.port p).profile.controlSlot = (s.port p).profile.controlSlot

theorem Part.sameRecords.routes {s t : Part} (h : s.sameRecords t) : s.sameRoutes t := by
  obtain ⟨resets, -, map, holders, lists, -, -, slots⟩ := h
  exact ⟨resets, map, holders, lists, slots⟩

theorem Part.sameRoutes.carries {s t : Part} (h : s.sameRoutes t) : t.carries = s.carries := by
  obtain ⟨-, -, -, -, slots⟩ := h
  funext p i
  obtain ⟨hn, hc⟩ := slots p
  simp only [Part.carries, Profile.slots, Profile.control, hn, hc]

/-- Where the carried slots are the same, the same sources are lawful. -/
theorem Part.sourceLawful_of_carries {s t : Part} (h : t.carries = s.carries) : t.sourceLawful = s.sourceLawful := by
  funext src
  cases src with
  | inbound q j => exact congrFun (congrFun h q) j
  | _ => rfl

theorem Part.sameRoutes.lawful {s t : Part} (h : s.sameRoutes t) (hs : s.routesLawful) : t.routesLawful := by
  have carried := h.carries
  have lawful := Part.sourceLawful_of_carries carried
  obtain ⟨resets, map, holders, lists, -⟩ := h
  have entry : t.entry = s.entry := by funext p i; rw [Part.entry, map, Part.entry]
  have list : t.list = s.list := by funext m; rw [Part.list, lists, Part.list]
  unfold Part.routesLawful Part.mapLawful Part.heldCarried Part.listsLawful Part.resetHeld at hs ⊢
  rw [carried, lawful, entry, list, holders, resets]
  exact hs

/-! ### One list (R34, R35) -/

/-- The laws of the staging list of master `m`: what it holds, and what an edit of it names. -/
structure StagingList.lawfulFor (l : StagingList) (m : Port) (s : Part) : Prop where
  length : l.edits.length ≤ 16
  distinct : l.edits.Pairwise fun e f => ¬ (e.port = f.port ∧ e.slot = f.slot)
  edits : ∀ e ∈ l.edits, s.claims.holder (.slot e.port e.slot) = some m ∧ s.sourceLawful e.source
  armed : l.target.isSome = true → l.edits ≠ []

theorem Part.listsLawful_iff (s : Part) : s.listsLawful ↔ ∀ m, (s.list m).lawfulFor m s :=
  forall_congr' fun _ => ⟨fun ⟨h1, h2, h3, h4⟩ => ⟨h1, h2, h3, h4⟩, fun ⟨h1, h2, h3, h4⟩ => ⟨h1, h2, h3, h4⟩⟩

theorem StagingList.cleared_lawfulFor (m : Port) (s : Part) : StagingList.cleared.lawfulFor m s :=
  ⟨Nat.zero_le _, .nil, nofun, nofun⟩

/-- A list without some edits is lawful where the edits kept are. -/
theorem StagingList.lawfulFor.without {l : StagingList} {m : Port} {s t : Part} (h : l.lawfulFor m s)
    (gone : Edit → Bool)
    (kept : ∀ e ∈ l.edits, gone e = false → t.claims.holder (.slot e.port e.slot) = some m ∧ t.sourceLawful e.source) :
    (l.without gone).lawfulFor m t where
  length := (List.length_filter_le _ _).trans h.length
  distinct := h.distinct.filter _
  edits e he := by
    obtain ⟨mem, stays⟩ := List.mem_filter.mp he
    exact kept e mem (by simpa using stays)
  armed ht hn := by
    simp only [StagingList.without] at ht hn
    simp [hn] at ht

/-- A list is lawful where its master still holds what it targets and its sources are lawful. -/
theorem StagingList.lawfulFor.of_edits {l : StagingList} {m : Port} {s t : Part} (h : l.lawfulFor m s)
    (kept : ∀ e ∈ l.edits, t.claims.holder (.slot e.port e.slot) = some m ∧ t.sourceLawful e.source) :
    l.lawfulFor m t :=
  ⟨h.length, h.distinct, kept, h.armed⟩

/-- A staged edit joins at the end, or takes the place of the edit with its target (R37). -/
theorem StagingList.lawfulFor.withEdit {l : StagingList} {m : Port} {s : Part} (h : l.lawfulFor m s) {e : Edit}
    (held : s.claims.holder (.slot e.port e.slot) = some m) (source : s.sourceLawful e.source)
    (room : 16 ≤ l.edits.length → (l.edits.any fun g => g.sameTarget e) = true) :
    (l.withEdit e).lawfulFor m s := by
  unfold StagingList.withEdit
  split
  case isTrue =>
    have target : ∀ f : Edit, (if f.sameTarget e then e else f).port = f.port
        ∧ (if f.sameTarget e then e else f).slot = f.slot := fun f => by
      split
      · have same := (f.sameTarget_iff e).mp ‹_›
        exact ⟨same.1.symm, same.2.symm⟩
      · exact ⟨rfl, rfl⟩
    refine ⟨by simpa using h.length, ?_, fun f hf => ?_, fun ht hn => h.armed ht (by simpa using hn)⟩
    · refine List.pairwise_map.mpr (h.distinct.imp fun {a b} hab => ?_)
      rw [(target a).1, (target a).2, (target b).1, (target b).2]
      exact hab
    · obtain ⟨g, hg, rfl⟩ := List.mem_map.mp hf
      split
      · exact ⟨held, source⟩
      · exact h.edits g hg
  case isFalse fresh =>
    have new : ∀ f ∈ l.edits, ¬ (f.port = e.port ∧ f.slot = e.slot) := fun f hf same =>
      fresh (List.any_eq_true.mpr ⟨f, hf, (f.sameTarget_iff e).mpr same⟩)
    refine ⟨?_, ?_, fun f hf => ?_, fun _ => by simp⟩
    · have short : ¬ 16 ≤ l.edits.length := fun full => fresh (room full)
      simp only [List.length_append, List.length_singleton]
      omega
    · refine List.pairwise_append.mpr ⟨h.distinct, List.pairwise_singleton _ _, fun f hf g hg => ?_⟩
      obtain rfl := List.mem_singleton.mp hg
      exact new f hf
    · rcases List.mem_append.mp hf with hf | hf
      · exact h.edits f hf
      · obtain rfl := List.mem_singleton.mp hf
        exact ⟨held, source⟩

/-- A part that runs keeps the laws where its map, its claims and its lists do. -/
theorem Part.routesLawful_of_running {s : Part} (running : s.inReset = false) (map : s.mapLawful)
    (held : s.heldCarried) (lists : ∀ m, (s.list m).lawfulFor m s) : s.routesLawful :=
  ⟨map, held, s.listsLawful_iff.mpr lists, fun hr => by rw [running] at hr; cases hr⟩

/-! ### The switchover (R43 to R45) -/

/-- An entry after edits are written: that of an edit that targets it, or as it was. -/
theorem foldl_writeEntry_get (edits : List Edit) (g : Half) (m : Bank 4 (Bank 64 Entry)) (p : Port) (i : Slot) :
    (∃ e ∈ edits, e.port = p ∧ e.slot = i
        ∧ ((edits.foldl (fun m e => writeEntry m e g) m).get p).get i = ⟨e.source, g⟩)
      ∨ (∀ e ∈ edits, ¬ (e.port = p ∧ e.slot = i))
        ∧ ((edits.foldl (fun m e => writeEntry m e g) m).get p).get i = (m.get p).get i := by
  induction edits generalizing m with
  | nil => exact .inr ⟨nofun, rfl⟩
  | cons e edits ih =>
    rw [List.foldl_cons]
    rcases ih (writeEntry m e g) with ⟨f, hf, written⟩ | ⟨untargeted, same⟩
    · exact .inl ⟨f, List.mem_cons_of_mem _ hf, written⟩
    · by_cases target : e.port = p ∧ e.slot = i
      · refine .inl ⟨e, List.mem_cons_self, target.1, target.2, ?_⟩
        rw [same]
        obtain ⟨rfl, rfl⟩ := target
        simp [writeEntry]
      · refine .inr ⟨?_, ?_⟩
        · intro f hf
          rcases List.mem_cons.mp hf with rfl | hf
          · exact target
          · exact untargeted f hf
        · rw [same]
          simp only [writeEntry, Bank.get_modify]
          split
          case isTrue hp =>
            rw [Bank.get_set_ne _ _ fun hi => target ⟨hp.symm, hi.symm⟩, hp]
          case isFalse => rfl

/-- The source of an entry after the due lists are written. -/
theorem Exchange.apply_source (x : Exchange) (edits : List Edit) (p : Port) (i : Slot) :
    (∃ e ∈ edits, e.port = p ∧ e.slot = i ∧ (((x.apply edits).map.get p).get i).source = e.source)
      ∨ (((x.apply edits).map.get p).get i).source = ((x.map.get p).get i).source := by
  unfold Exchange.apply
  split
  · exact .inr rfl
  · dsimp only
    rcases foldl_writeEntry_get edits (x.generation + 1) x.map p i with ⟨e, he, hp, hi, written⟩ | ⟨-, same⟩
    · exact .inl ⟨e, he, hp, hi, by rw [written]⟩
    · exact .inr (by rw [same])

/-- A due edit is one of the list of a master. -/
theorem Part.mem_dueEdits {s : Part} {e : Edit} (h : e ∈ s.dueEdits) : ∃ m, e ∈ (s.list m).edits := by
  obtain ⟨m, -, he⟩ := List.mem_flatMap.mp h
  exact ⟨m, he⟩

theorem Part.switchover_routesLawful {s : Part} (running : s.inReset = false) (h : s.routesLawful) :
    s.switchover.routesLawful := by
  obtain ⟨map, held, lists, -⟩ := h
  rw [Part.listsLawful_iff] at lists
  have port : ∀ q, s.switchover.port q = s.port q := fun q => by rw [Part.port, Part.switchover_ports, Part.port]
  have carried : s.switchover.carries = s.carries := by funext p i; simp only [Part.carries, port]
  have lawful := Part.sourceLawful_of_carries carried
  refine Part.routesLawful_of_running (by simpa using running) (fun p i => ?_) (fun p i => ?_) fun m => ?_
  · rw [carried, lawful, Part.entry, Part.switchover_exch]
    rcases s.exch.apply_source s.dueEdits p i with ⟨e, due, rfl, rfl, written⟩ | same
    · obtain ⟨m, he⟩ := Part.mem_dueEdits due
      obtain ⟨owned, source⟩ := (lists m).edits e he
      rw [written]
      exact ⟨fun absent => absurd (held e.port e.slot (by rw [owned]; rfl)) absent, source⟩
    · rw [same]
      exact map p i
  · rw [carried, Part.switchover_claims]
    exact held p i
  · rw [Part.switchover_list]
    split
    · exact StagingList.cleared_lawfulFor ..
    · exact (lists m).of_edits fun e he => by
        rw [Part.switchover_claims, lawful]
        exact (lists m).edits e he

/-! ### The lapse (R28, R29) -/

theorem Part.lapsePort_holder (s : Part) (p : Port) (o : ClaimObject) :
    (s.lapsePort p).claims.holder o = if s.claims.holder o = some p then none else s.claims.holder o := by
  rw [Part.lapsePort_eq]
  simp only [ClaimUnit.setHolders_holder, ClaimUnit.mem_holding]

theorem Part.lapsePort_list (s : Part) (p m : Port) :
    (s.lapsePort p).list m = if m = p then .cleared else s.list m := by
  rw [Part.lapsePort_eq]
  exact Bank.get_set ..

theorem Part.lapsePort_routesLawful {s : Part} (p : Port) (running : s.inReset = false) (h : s.routesLawful) :
    (s.lapsePort p).routesLawful := by
  obtain ⟨map, held, lists, -⟩ := h
  rw [Part.listsLawful_iff] at lists
  have same : (s.lapsePort p).inReset = s.inReset ∧ (s.lapsePort p).entry = s.entry
      ∧ (s.lapsePort p).carries = s.carries := by
    rw [Part.lapsePort_eq]
    exact ⟨rfl, rfl, rfl⟩
  obtain ⟨resets, entry, carried⟩ := same
  have lawful := Part.sourceLawful_of_carries carried
  refine Part.routesLawful_of_running (resets.trans running) (fun q i => ?_) (fun q i => ?_) fun m => ?_
  · rw [carried, lawful, entry]
    exact map q i
  · rw [carried, Part.lapsePort_holder]
    split
    · exact nofun
    · exact held q i
  · rw [Part.lapsePort_list]
    split
    · exact StagingList.cleared_lawfulFor ..
    case isFalse other =>
      refine (lists m).of_edits fun e he => ?_
      obtain ⟨owned, source⟩ := (lists m).edits e he
      rw [Part.lapsePort_holder, owned, lawful, if_neg fun same => other (Option.some.inj same)]
      exact ⟨rfl, source⟩

theorem Part.setLapseTimer_sameRoutes (s : Part) (p : Port) (n : Nat) : s.sameRoutes (s.setLapseTimer p n) :=
  (s.setLapseTimer_sameRecords p n).routes

theorem Part.countLapse_routesLawful {s : Part} (p : Port) (running : s.inReset = false) (h : s.routesLawful) :
    (s.countLapse p).routesLawful := by
  have counted : ∀ n, (s.setLapseTimer p n).routesLawful := fun n => (s.setLapseTimer_sameRoutes p n).lawful h
  unfold Part.countLapse
  split
  · exact h
  split
  · dsimp only
    split
    · exact Part.lapsePort_routesLawful p running (counted _)
    · exact counted _
  · exact h

theorem Part.lapseAhead_routesLawful {s : Part} (p : Port) (running : s.inReset = false) (h : s.routesLawful) :
    (s.lapseAhead p).routesLawful := by
  unfold Part.lapseAhead
  split
  · exact Part.lapsePort_routesLawful p running ((s.setLapseTimer_sameRoutes p _).lawful h)
  · exact h

theorem Part.foldl_countLapse_routesLawful (ps : List Port) (s : Part) (running : s.inReset = false)
    (h : s.routesLawful) : (ps.foldl Part.countLapse s).routesLawful := by
  induction ps generalizing s with
  | nil => exact h
  | cons p ps ih =>
    rw [List.foldl_cons]
    exact ih _ (by rw [Part.countLapse_eq]; exact running) (Part.countLapse_routesLawful p running h)

theorem Part.countLapses_routesLawful {s : Part} (running : s.inReset = false) (h : s.routesLawful) :
    s.countLapses.routesLawful := by
  unfold Part.countLapses
  exact Part.foldl_countLapse_routesLawful allPorts s running h

/-! ### The exchange frame start (R7) -/

theorem Part.referenceShare_sameRoutes (s : Part) (cause : StartCause) : s.sameRoutes (s.referenceShare cause) :=
  ⟨by simp, by simp, by simp, by simp, fun p => by
    rw [Part.port, Part.referenceShare_ports, Part.port]
    exact ⟨rfl, rfl⟩⟩

theorem Part.frameStart_routesLawful {s : Part} (cause : StartCause) (running : s.inReset = false)
    (h : s.routesLawful) : (s.frameStart cause).routesLawful := by
  have taken : s.sameRoutes s.advanceCounter.readStores.takeBytes := by
    refine ⟨by simp, by simp, by simp, by simp, fun p => ?_⟩
    rw [Part.takeBytes_port, Part.readStores_port]
    exact ⟨rfl, rfl⟩
  have running' : s.switched.inReset = false := by rw [Part.switched, Part.switchover_inReset, taken.1, running]
  have switched := Part.switchover_routesLawful (taken.1.trans running) (taken.lawful h)
  rw [← Part.switched] at switched
  have written : s.switched.sameRoutes (s.switched.writeFrames s.yields s.playbackBytes) := by
    refine ⟨by simp, by simp, by simp, by simp, fun p => ?_⟩
    have := congrArg Prod.fst (s.switched.writeFrames_port s.yields s.playbackBytes p)
    dsimp only at this
    rw [this]
    split <;> simp only [and_self]
  have running'' := written.1.trans running'
  have counted := Part.countLapses_routesLawful running'' (written.lawful switched)
  rw [Part.frameStart_def]
  exact (Part.referenceShare_sameRoutes _ cause).lawful counted

/-! ### The reference unit and the requests -/

theorem Part.clearCandidate_sameRoutes (s : Part) (reason : RefReason) : s.sameRoutes (s.clearCandidate reason) := by
  rw [Part.clearCandidate_eq]
  exact ⟨rfl, rfl, rfl, rfl, fun _ => ⟨rfl, rfl⟩⟩

theorem Part.setRef_sameRoutes (s : Part) (r : RefUnit) : s.sameRoutes (s.setRef r) :=
  ⟨rfl, rfl, rfl, rfl, fun _ => ⟨rfl, rfl⟩⟩

theorem Part.loseReference_routesLawful {s : Part} (reason : RefReason) (running : s.inReset = false)
    (h : s.routesLawful) : (s.loseReference reason).routesLawful := by
  have lost : ((s.setRef s.ref.lost).raiseReference reason).routesLawful :=
    Part.sameRoutes.lawful (s := s) ⟨rfl, rfl, rfl, rfl, fun _ => ⟨rfl, rfl⟩⟩ h
  unfold Part.loseReference
  dsimp only
  split
  · exact Part.frameStart_routesLawful _ running lost
  · exact lost

theorem Part.lockChanged_routesLawful {s : Part} (p : Port) (before after : LockState) (running : s.inReset = false)
    (h : s.routesLawful) : (s.lockChanged p before after).routesLawful := by
  unfold Part.lockChanged
  split
  · exact (s.clearCandidate_sameRoutes _).lawful h
  split
  · exact Part.loseReference_routesLawful _ running h
  · exact h

theorem Part.setReferences_routesLawful {s : Part} (list : List Port) (revertive : Bool) (running : s.inReset = false)
    (h : s.routesLawful) : (s.setReferences list revertive).routesLawful := by
  have listed : ∀ r, (s.setRef r).routesLawful := fun r => (s.setRef_sameRoutes r).lawful h
  unfold Part.setReferences
  dsimp only
  split
  · split
    · exact Part.loseReference_routesLawful _ running (listed _)
    split
    · exact (Part.clearCandidate_sameRoutes _ _).lawful (listed _)
    · exact listed _
  · split
    · exact (Part.clearCandidate_sameRoutes _ _).lawful (listed _)
    · exact listed _
  · exact listed _
  · exact listed _

theorem Part.removeEdits_list (s : Part) (p m : Port) (gone : Edit → Bool) (reason : CancelReason) :
    (s.removeEdits p gone reason).list m = if m = p then (s.list p).without gone else s.list m := by
  rw [Part.removeEdits_eq]
  exact Bank.get_set ..

/-- Objects given to a port that held them or that nobody held leave every other port its own. -/
theorem Part.claim_routesLawful {s : Part} {p : Port} {os : List ClaimObject} (running : s.inReset = false)
    (carried : ∀ q i, .slot q i ∈ os → s.carries q i)
    (free : ∀ o ∈ os, s.claims.holder o = none ∨ s.claims.holder o = some p) (h : s.routesLawful) :
    ({ s with claims := s.claims.setHolders os (some p) } : Part).routesLawful := by
  obtain ⟨map, held, lists, -⟩ := h
  rw [Part.listsLawful_iff] at lists
  refine Part.routesLawful_of_running running map (fun q i => ?_) fun m => (lists m).of_edits fun e he => ?_
  · rw [ClaimUnit.setHolders_holder]
    split
    · exact fun _ => carried q i ‹_›
    · exact held q i
  · obtain ⟨owned, source⟩ := (lists m).edits e he
    refine ⟨?_, source⟩
    rw [ClaimUnit.setHolders_holder]
    split
    case isTrue named =>
      rcases free _ named with none | own
      · rw [owned] at none; cases none
      · exact own.symm.trans owned
    case isFalse => exact owned

/-- A release takes the edits on what it frees out of the list of its port (R25). -/
theorem Part.release_routesLawful {s : Part} {p : Port} {os : List ClaimObject} (running : s.inReset = false)
    (own : ∀ o ∈ os, s.claims.holder o = some p) (h : s.routesLawful) :
    (({ s with claims := s.claims.setHolders os none } : Part).removeEdits p (targetsOneOf os)
      .released).routesLawful := by
  obtain ⟨map, held, lists, -⟩ := h
  rw [Part.listsLawful_iff] at lists
  refine Part.routesLawful_of_running (by simpa using running) ?_ (fun q i => ?_) fun m => ?_
  · rw [Part.removeEdits_eq]
    exact map
  · rw [Part.removeEdits_eq]
    show ((s.claims.setHolders os none).holder _).isSome = true → _
    rw [ClaimUnit.setHolders_holder]
    split
    · exact nofun
    · exact held q i
  · have kept : ∀ e ∈ (s.list m).edits, targetsOneOf os e = false ∨ m ≠ p →
        (s.claims.setHolders os none).holder (.slot e.port e.slot) = some m ∧ s.sourceLawful e.source := by
      intro e he stays
      obtain ⟨owned, source⟩ := (lists m).edits e he
      refine ⟨?_, source⟩
      rw [ClaimUnit.setHolders_holder, if_neg, owned]
      intro named
      rcases stays with untargeted | other
      · simp [targetsOneOf, named] at untargeted
      · exact other (Option.some.inj (owned.symm.trans (own _ named)))
    rw [Part.removeEdits_list]
    split
    case isTrue same =>
      subst m
      refine (lists p).without _ fun e he stays => ?_
      rw [Part.removeEdits_eq]
      exact kept e he (.inl stays)
    case isFalse other =>
      refine (lists m).of_edits fun e he => ?_
      rw [Part.removeEdits_eq]
      exact kept e he (.inr other)

/-- One list replaced by a lawful one. -/
theorem Part.setList_routesLawful {s : Part} {p : Port} {l : StagingList} (running : s.inReset = false)
    (h : s.routesLawful) (hl : l.lawfulFor p s) : ({ s with lists := s.lists.set p l } : Part).routesLawful := by
  obtain ⟨map, held, lists, -⟩ := h
  rw [Part.listsLawful_iff] at lists
  refine Part.routesLawful_of_running running map held fun m => ?_
  rw [Part.list, Bank.get_set]
  split
  · subst m; exact ⟨hl.length, hl.distinct, hl.edits, hl.armed⟩
  · exact ⟨(lists m).length, (lists m).distinct, (lists m).edits, (lists m).armed⟩

theorem Part.Action.routesLawful {s t : Part} {p : Port} (e : s.Action p t) (running : s.inReset = false)
    (h : s.routesLawful) : t.routesLawful := by
  have lists := s.listsLawful_iff.mp h.2.2.1
  have same : ∀ {u : Part}, s.sameRoutes u → u.routesLawful := fun hu => hu.lawful h
  cases e with
  | nothing => exact h
  | claim os carried free => exact Part.claim_routesLawful running carried free h
  | release os own => exact Part.release_routesLawful running own h
  | stage e held source _ room =>
    exact Part.setList_routesLawful running h ((lists p).withEdit held source room)
  | discard => exact Part.setList_routesLawful running h (StagingList.cleared_lawfulFor ..)
  | arm t filled =>
    exact Part.setList_routesLawful running h ⟨(lists p).length, (lists p).distinct, (lists p).edits, fun _ => filled⟩
  | setReferences list revertive _ => exact Part.setReferences_routesLawful list revertive running h
  | setProfile | restart => exact same (s.modifyPort_sameRecords p rfl rfl).routes
  | play k n =>
    refine same ?_
    unfold Part.startPlay
    dsimp only
    split <;> exact ⟨rfl, rfl, rfl, rfl, fun _ => ⟨rfl, rfl⟩⟩
  | stop | mask => exact same ⟨rfl, rfl, rfl, rfl, fun _ => ⟨rfl, rfl⟩⟩

/-! ### A profile change in effect (R16, R32, R49) -/

/-- The list of a master after a profile change: without the edits that lose their target or their source. -/
theorem Part.profileEffect_list (s : Part) (p m : Port) (n : SlotCount) (c : ControlSlot) :
    (s.profileEffect p n c).list m =
      (s.list m).without fun e => losesTarget s.claims m p n c e || e.source.namesAffected p n c := by
  unfold Part.profileEffect
  dsimp only
  rw [foldl_each (Part.settleEdits s.claims p n c) (fun _ => ()) Part.list
    (fun _ m l => l.without fun e => losesTarget s.claims m p n c e || e.source.namesAffected p n c)
    (fun _ _ => rfl) (fun v m j => Part.removeEdits_list v m j _ _) allPorts allPorts_nodup]
  rw [if_pos (mem_allPorts m)]
  rfl

/-- No affected slot is held after a profile change (R32). -/
theorem ClaimUnit.endAffected_slot (t : ClaimUnit) (p q : Port) (n : SlotCount) (c : ControlSlot) (i : Slot) :
    (t.endAffected p n c).holder (.slot q i) =
      if q = p ∧ affected n c i.val = true then none else t.holder (.slot q i) := by
  simp only [ClaimUnit.holder, ClaimUnit.endAffected, Bank.get_modify]
  by_cases hq : q = p
  · subst q
    simp
  · simp [hq]

/-- The entries after a profile change (R16). -/
theorem Part.profileEffect_entry (s : Part) (p q : Port) (n : SlotCount) (c : ControlSlot) (i : Slot) :
    (s.profileEffect p n c).entry q i = resetEntry p n c s.exch.generation q i (s.entry q i) := by
  rw [Part.profileEffect_eq]
  simp [Part.entry, Exchange.resetAffected]

/-- The slots carried after a profile change of port `p`: its own are those that are not affected. -/
theorem Part.profileEffect_carries (s : Part) (p q : Port) (n : SlotCount) (c : ControlSlot) (i : Slot) :
    (s.profileEffect p n c).carries q i ↔ if q = p then affected n c i.val = false else s.carries q i := by
  simp only [Part.carries, Part.profileEffect_port]
  split
  · simp [affected, Profile.slots, Profile.control]
  · rfl

/-- A source that was lawful and names no affected slot is lawful after the change. -/
theorem Part.profileEffect_sourceLawful {s : Part} {p : Port} {n : SlotCount} {c : ControlSlot} {src : Source}
    (h : s.sourceLawful src) (unaffected : src.namesAffected p n c = false) :
    (s.profileEffect p n c).sourceLawful src := by
  cases src with
  | inbound q j =>
    refine (s.profileEffect_carries p q n c j).mpr ?_
    split
    · subst q; simpa [Source.namesAffected] using unaffected
    · exact h
  | _ => trivial

theorem Part.profileEffect_routesLawful {s : Part} (p : Port) (n : SlotCount) (c : ControlSlot)
    (running : s.inReset = false) (h : s.routesLawful) : (s.profileEffect p n c).routesLawful := by
  obtain ⟨map, held, lists, -⟩ := h
  rw [Part.listsLawful_iff] at lists
  have claims : (s.profileEffect p n c).claims = s.claims.endAffected p n c := by rw [Part.profileEffect_eq]
  refine Part.routesLawful_of_running (by simpa using running) (fun q i => ?_) (fun q i => ?_) fun m => ?_
  · rw [Part.profileEffect_entry, resetEntry]
    split
    case isTrue => exact ⟨fun _ => rfl, trivial⟩
    case isFalse kept =>
      simp only [Bool.or_eq_true, Bool.and_eq_true, beq_iff_eq, bne_iff_ne, not_or, not_and, not_not,
        Bool.not_eq_true] at kept
      obtain ⟨own, source⟩ := kept
      refine ⟨fun absent => ?_, Part.profileEffect_sourceLawful (map q i).2 source⟩
      rw [Part.profileEffect_carries] at absent
      split at absent
      · exact own ⟨‹_›, by simpa using absent⟩
      · exact (map q i).1 absent
  · rw [claims, ClaimUnit.endAffected_slot, Part.profileEffect_carries]
    split
    · exact nofun
    · intro some
      split
      · simp_all
      · exact held q i some
  · rw [Part.profileEffect_list]
    refine (lists m).without _ fun e he stays => ?_
    obtain ⟨owned, source⟩ := (lists m).edits e he
    simp only [Bool.or_eq_false_iff] at stays
    refine ⟨?_, Part.profileEffect_sourceLawful source stays.2⟩
    rw [claims, ClaimUnit.endAffected_slot, if_neg, owned]
    simpa [losesTarget, owned] using stays.1

theorem Part.actionEffect_routesLawful {s : Part} (p : Port) (running : s.inReset = false) (h : s.routesLawful) :
    (s.actionEffect p).routesLawful := by
  unfold Part.actionEffect
  split
  · exact h
  · exact Part.profileEffect_routesLawful p _ _ running h
  · exact Part.setList_routesLawful running ((s.modifyPort_sameRecords p rfl rfl).routes.lawful h)
      (StagingList.cleared_lawfulFor ..)

/-! ### Every step -/

/-- In device reset, and at its end, the map, the claims and the lists hold their reset values (R168). -/
theorem Part.routesLawful_of_empty {s : Part} (entries : ∀ p i, (s.entry p i).source = .idle)
    (holders : ∀ p i, s.claims.holder (.slot p i) = none) (lists : ∀ m, s.list m = .cleared) : s.routesLawful := by
  refine ⟨fun p i => ?_, fun p i => ?_, s.listsLawful_iff.mpr fun m => ?_,
    fun _ => ⟨entries, holders, fun m => by rw [lists]; rfl⟩⟩
  · rw [entries]
    exact ⟨fun _ => rfl, trivial⟩
  · rw [holders]
    exact nofun
  · rw [lists]
    exact StagingList.cleared_lawfulFor ..

/-- The laws of the routes are kept by every event of the part. -/
theorem Part.routesLaw : Part.Law Part.routesLawful where
  standing h hs := h.1.routes.lawful hs
  action running e hs := e.routesLawful running hs
  held {s} _ := Part.routesLawful_of_empty
    (fun p i => by simp [Part.entry, Part.held, Part.reset, Exchange.reset])
    (fun p i => by simp [ClaimUnit.holder, Part.held, Part.reset, ClaimUnit.reset])
    (fun m => by simp [Part.list, Part.held, Part.reset, StagingList.reset, StagingList.cleared])
  release {s} x inReset hs := by
    obtain ⟨entries, holders, lists⟩ := hs.2.2.2 inReset
    have unarmed : ∀ m, s.list m = .cleared := fun m => by
      have armed := (s.listsLawful_iff.mp hs.2.2.1 m).armed
      have empty := lists m
      generalize s.list m = l at armed empty
      obtain ⟨edits, target⟩ := l
      obtain rfl : edits = [] := empty
      cases target with
      | none => rfl
      | some t => exact absurd rfl (armed rfl)
    refine Part.routesLawful_of_empty (fun p i => ?_) (fun p i => ?_) fun m => ?_
    all_goals rw [Part.release_eq]
    · exact entries p i
    · exact holders p i
    · exact unarmed m
  frameStart cause running hs := Part.frameStart_routesLawful cause running hs
  lapseAhead p running hs := Part.lapseAhead_routesLawful p running hs
  found _ _ records _ hs := records.routes.lawful hs
  ended running _ records _ _ _ hs :=
    Part.lockChanged_routesLawful _ _ _ (records.1.trans running) (records.routes.lawful hs)
  left {s p dest} dout cause counted running _ _ hs := by
    have dropped : s.sameRoutes (s.dropLock p dest dout counted) :=
      ((s.modifyPort_sameRecords p rfl rfl).trans
        (Part.sameRecords_of_units rfl fun _ => ⟨rfl, rfl⟩)).routes
    have running' : (s.dropLock p dest dout counted).inReset = false := dropped.1.trans running
    exact Part.lockChanged_routesLawful _ _ _ (by simpa using running')
      ((Part.raise_sameStanding _ _).1.routes.lawful (Part.actionEffect_routesLawful p running' (dropped.lawful hs)))
  arbitrate _ hs := by
    rw [Part.arbitrate_eq]
    exact hs
  completeBurst bytes _ hs := by
    rw [Part.completeBurst_eq]
    exact hs
  loanReq _ hs := by
    rw [Part.takeLoanReq_eq]
    exact hs
  loanRelease _ hs := by
    rw [Part.takeLoanRelease_eq]
    exact hs

/-- Settles O58: each event of the part keeps the laws of the map, the claims and the lists, and a step is one
event. -/
theorem everyStepKeepsTheRouteLaws : Obligations.EveryStepKeepsTheRouteLaws :=
  fun _ _ => Part.routesLaw.keeps_step

end Sys2Proof.Machine
end

section
/-! Chapters 9 and 10, the laws of the prefetch queues, the cache, the fetches and the burst (R140, R145, R146, R148,
R157): each event of the playback unit and of the memory port keeps them, and so every step does. -/

namespace Sys2Proof.Machine

open Sys2Proof

/-- The laws of a playback unit at a memory port. -/
structure PlaybackUnit.lawfulAt (u : PlaybackUnit) (m : MemPort) : Prop where
  port : m.lawful
  distinct : (u.fetches.map Fetch.pattern).Nodup
  issued : ∀ f ∈ u.fetches, f.progress = .issued ↔ m.fetching = some f.pattern
  pending : ∀ n, m.fetching = some n → n ∈ u.fetches.map Fetch.pattern
  awaited : ∀ f ∈ u.fetches, f.progress = .awaitingIssue → f.waiters ≠ []
  waits : ∀ k, (u.fetches.filter fun f => f.waiters.contains k).length =
    if (u.channels.get k).state = .loading then 1 else 0
  copied : ∀ k, ((u.channels.get k).state = .priming ∨ (u.channels.get k).state = .playing) →
    (u.channels.get k).desc.isSome = true
  cacheLength : u.cache.length ≤ 4
  cacheDistinct : (u.cache.map CacheEntry.pattern).Nodup
  cacheFetched : ∀ e ∈ u.cache, e.pattern ∉ u.fetches.map Fetch.pattern
  inFlight : ∀ k, (u.channels.get k).inFlight = m.inFlightFor k
  room : ∀ k, (u.channels.get k).queue.length + (u.channels.get k).inFlight ≤ 32

theorem Part.prefetchLawful_iff (s : Part) : s.prefetchLawful ↔ s.play.lawfulAt s.mem :=
  ⟨fun ⟨port, ⟨distinct, issued, pending, awaited, waits⟩, ⟨copied, cacheLength, cacheDistinct, cacheFetched⟩,
      queues⟩ =>
      ⟨port, distinct, issued, pending, awaited, waits, copied, cacheLength, cacheDistinct, cacheFetched,
        fun k => (queues k).1, fun k => (queues k).2⟩,
    fun h => ⟨h.port, ⟨h.distinct, h.issued, h.pending, h.awaited, h.waits⟩,
      ⟨h.copied, h.cacheLength, h.cacheDistinct, h.cacheFetched⟩, fun k => ⟨h.inFlight k, h.room k⟩⟩⟩

/-- The laws read the state and the burst of the memory port alone. -/
theorem PlaybackUnit.lawfulAt.of_mem {u : PlaybackUnit} {m m' : MemPort} (h : u.lawfulAt m)
    (lawful : m'.lawful) (burst : m'.burst = m.burst) : u.lawfulAt m' := by
  have fetching : m'.fetching = m.fetching := by rw [MemPort.fetching, burst, MemPort.fetching]
  have inFlight : ∀ k, m'.inFlightFor k = m.inFlightFor k := fun k => by
    rw [MemPort.inFlightFor, burst, MemPort.inFlightFor]
  exact ⟨lawful, h.distinct, by rw [fetching]; exact h.issued, by rw [fetching]; exact h.pending, h.awaited, h.waits,
    h.copied, h.cacheLength, h.cacheDistinct, h.cacheFetched, fun k => by rw [inFlight]; exact h.inFlight k, h.room⟩

theorem PlaybackUnit.lawfulAt.of_state {u : PlaybackUnit} {m m' : MemPort} (h : u.lawfulAt m)
    (state : m'.state = m.state) (burst : m'.burst = m.burst) : u.lawfulAt m' :=
  h.of_mem (by simp only [MemPort.lawful, state, burst]; exact h.port) burst

/-! ### Channel records -/

/-- Channel records alone move: none that waits, and none that begins to. -/
theorem PlaybackUnit.lawfulAt.of_channels {u : PlaybackUnit} {m : MemPort} (h : u.lawfulAt m)
    {cs : Bank 8 ChannelRecord}
    (loading : ∀ k, (cs.get k).state = .loading ↔ (u.channels.get k).state = .loading)
    (copied : ∀ k, ((cs.get k).state = .priming ∨ (cs.get k).state = .playing) → (cs.get k).desc.isSome = true)
    (inFlight : ∀ k, (cs.get k).inFlight = (u.channels.get k).inFlight)
    (room : ∀ k, (cs.get k).queue.length ≤ (u.channels.get k).queue.length) :
    ({ u with channels := cs } : PlaybackUnit).lawfulAt m :=
  { h with
    waits := fun k => by simp only [loading k]; exact h.waits k
    copied := copied
    inFlight := fun k => (inFlight k).trans (h.inFlight k)
    room := fun k => by
      have := h.room k
      have := room k
      show (cs.get k).queue.length + (cs.get k).inFlight ≤ 32
      rw [inFlight k]
      omega }

/-- The byte taken from a channel: a PLAYING channel plays on or ends, and its queue does not grow (R152, R153). -/
theorem ChannelRecord.taken_spec (c : ChannelRecord) :
    (c.taken.state = c.state ∨ c.state = .playing ∧ c.taken.state = .ended) ∧ c.taken.desc = c.desc
      ∧ c.taken.inFlight = c.inFlight ∧ c.taken.queue.length ≤ c.queue.length := by
  unfold ChannelRecord.taken
  split
  case h_1 playing hq =>
    rw [hq]
    unfold ChannelRecord.advance
    dsimp only
    repeat' split
    all_goals simp [playing]
  case h_2 => simp
  case h_3 => simp

theorem PlaybackUnit.eq_of_fields {u v : PlaybackUnit} (channels : u.channels = v.channels) (cache : u.cache = v.cache)
    (fetches : u.fetches = v.fetches) : u = v := by
  cases u
  cases v
  simp_all

theorem Part.takeBytes_play (s : Part) :
    s.takeBytes.play = { s.play with channels := .build fun k => (s.channel k).taken } := by
  have channels : s.takeBytes.play.channels = .build fun k => (s.channel k).taken :=
    Bank.ext_get fun k => (s.takeBytes_channel k).trans (Bank.get_build (fun k => (s.channel k).taken) k).symm
  exact PlaybackUnit.eq_of_fields channels s.takeBytes_cache s.takeBytes_fetches

theorem Part.frameStart_play (s : Part) (cause : StartCause) : (s.frameStart cause).play = s.takeBytes.play := by
  have channels : (s.frameStart cause).play.channels = s.takeBytes.play.channels :=
    Bank.ext_get fun k => (s.frameStart_channel cause k).trans (s.takeBytes_channel k).symm
  exact PlaybackUnit.eq_of_fields channels ((s.frameStart_cache cause).trans s.takeBytes_cache.symm)
    ((s.frameStart_fetches cause).trans s.takeBytes_fetches.symm)

theorem Part.frameStart_prefetchLawful {s : Part} (cause : StartCause) (h : s.prefetchLawful) :
    (s.frameStart cause).prefetchLawful := by
  have lawful := s.prefetchLawful_iff.mp h
  rw [Part.prefetchLawful_iff, Part.frameStart_play, Part.frameStart_mem, Part.takeBytes_play]
  refine lawful.of_channels (fun k => ?_) (fun k => ?_) (fun k => ?_) fun k => ?_
  all_goals
    rw [Bank.get_build]
    obtain ⟨state, desc, inFlight, queue⟩ := (s.channel k).taken_spec
  · show _ ↔ (s.channel k).state = .loading
    rcases state with same | ⟨before, after⟩
    · rw [same]
    · simp [before, after]
  · rw [desc]
    intro active
    refine lawful.copied k ?_
    show (s.channel k).state = .priming ∨ (s.channel k).state = .playing
    rcases state with same | ⟨before, -⟩
    · rwa [same] at active
    · exact .inr before
  · exact inFlight
  · exact queue

/-! ### Waiting on fetches (R146) -/

/-- What becomes of one fetch when channel `k` leaves all but the fetch for `except`. -/
def Fetch.leftBy (f : Fetch) (k : Channel) (except : Option Pattern) : Option Fetch :=
  if f.waiters.contains k && some f.pattern != except then
    let f' := { f with waiters := f.waiters.filter fun j => j != k }
    if f'.waiters.isEmpty && f.progress == .awaitingIssue then none else some f'
  else some f

theorem leaveFetches_eq (fs : List Fetch) (k : Channel) (except : Option Pattern) :
    leaveFetches fs k except = fs.filterMap fun f => f.leftBy k except := rfl

/-- A fetch that stays keeps its pattern, its progress and its other waiters. -/
theorem Fetch.leftBy_some {f f' : Fetch} {k : Channel} {except : Option Pattern} (h : f.leftBy k except = some f') :
    f'.pattern = f.pattern ∧ f'.progress = f.progress
      ∧ (∀ j, j ∈ f'.waiters ↔ j ∈ f.waiters ∧ (j = k → some f.pattern = except))
      ∧ (f.progress = .awaitingIssue → f.waiters ≠ [] → f'.waiters ≠ []) := by
  unfold Fetch.leftBy at h
  dsimp only at h
  split at h
  case isTrue waiting =>
    simp only [Bool.and_eq_true, List.contains_iff_mem, bne_iff_ne] at waiting
    split at h
    · contradiction
    case isFalse kept =>
      obtain rfl := Option.some.inj h
      refine ⟨rfl, rfl, fun j => ?_, fun awaiting _ => ?_⟩
      · simp only [List.mem_filter, bne_iff_ne]
        exact and_congr_right fun _ => ⟨fun hj e => absurd e hj, fun he e => waiting.2 (he e)⟩
      · simpa [awaiting] using kept
  case isFalse other =>
    obtain rfl := Option.some.inj h
    simp only [Bool.and_eq_true, List.contains_iff_mem, bne_iff_ne, not_and, not_not] at other
    exact ⟨rfl, rfl, fun j => ⟨fun hj => ⟨hj, fun e => other (e ▸ hj)⟩, And.left⟩, fun _ filled => filled⟩

/-- A fetch that goes was awaiting issue, and nobody but the leaving channel waited on it. -/
theorem Fetch.leftBy_none {f : Fetch} {k : Channel} {except : Option Pattern} (h : f.leftBy k except = none) :
    f.progress = .awaitingIssue ∧ ∀ j ∈ f.waiters, j = k := by
  unfold Fetch.leftBy at h
  dsimp only at h
  split at h
  case isTrue =>
    split at h
    case isTrue gone =>
      simp only [Bool.and_eq_true, List.isEmpty_iff, List.filter_eq_nil_iff, beq_iff_eq] at gone
      exact ⟨gone.2, fun j hj => by simpa using gone.1 j hj⟩
    case isFalse => contradiction
  case isFalse => contradiction

theorem mem_leaveFetches {fs : List Fetch} {k : Channel} {except : Option Pattern} {f' : Fetch} :
    f' ∈ leaveFetches fs k except ↔ ∃ f ∈ fs, f.leftBy k except = some f' := List.mem_filterMap

/-- The patterns of the fetches that stay are among those there were, in their order. -/
theorem leaveFetches_patterns (fs : List Fetch) (k : Channel) (except : Option Pattern) :
    ((leaveFetches fs k except).map Fetch.pattern).Sublist (fs.map Fetch.pattern) := by
  rw [leaveFetches_eq]
  induction fs with
  | nil => exact List.Sublist.slnil
  | cons f fs ih =>
    rw [List.filterMap_cons]
    split
    · exact ih.cons _
    case h_2 f' left => 
      rw [List.map_cons, List.map_cons, (Fetch.leftBy_some left).1]
      exact ih.cons_cons _

/-- The number of fetches another channel waits on stays. -/
theorem leaveFetches_waits (fs : List Fetch) {k j : Channel} (except : Option Pattern) (hj : j ≠ k) :
    ((leaveFetches fs k except).filter fun f => f.waiters.contains j).length =
      (fs.filter fun f => f.waiters.contains j).length := by
  rw [← List.countP_eq_length_filter, ← List.countP_eq_length_filter, leaveFetches_eq, List.countP_filterMap]
  refine List.countP_congr fun f _ => ?_
  cases left : f.leftBy k except with
  | none =>
    have alone := (Fetch.leftBy_none left).2 j
    simpa using fun waits => hj (alone waits)
  | some f' =>
    have same := (Fetch.leftBy_some left).2.2.1 j
    simp [same, hj]

/-- A channel that has left every fetch waits on none. -/
theorem leaveFetches_none_waits (fs : List Fetch) (k : Channel) :
    (leaveFetches fs k none).filter (fun f => f.waiters.contains k) = [] := by
  refine List.filter_eq_nil_iff.mpr fun f' hf => ?_
  obtain ⟨f, -, left⟩ := mem_leaveFetches.mp hf
  simpa using fun waits => ((Fetch.leftBy_some left).2.2.1 k).mp waits |>.2 rfl

/-- The laws of the fetches after channel `k` leaves all but the fetch for `except`. -/
theorem PlaybackUnit.lawfulAt.leave {u : PlaybackUnit} {m : MemPort} (h : u.lawfulAt m) (k : Channel)
    (except : Option Pattern) :
    let fs := leaveFetches u.fetches k except
    (fs.map Fetch.pattern).Nodup
      ∧ (∀ f ∈ fs, f.progress = .issued ↔ m.fetching = some f.pattern)
      ∧ (∀ n, m.fetching = some n → n ∈ fs.map Fetch.pattern)
      ∧ (∀ f ∈ fs, f.progress = .awaitingIssue → f.waiters ≠ [])
      ∧ ∀ e ∈ u.cache, e.pattern ∉ fs.map Fetch.pattern := by
  dsimp only
  have patterns := leaveFetches_patterns u.fetches k except
  refine ⟨h.distinct.sublist patterns, fun f' hf => ?_, fun n hn => ?_, fun f' hf => ?_,
    fun e he mem => h.cacheFetched e he (patterns.subset mem)⟩
  · obtain ⟨f, mem, left⟩ := mem_leaveFetches.mp hf
    obtain ⟨pattern, progress, -⟩ := Fetch.leftBy_some left
    rw [pattern, progress]
    exact h.issued f mem
  · obtain ⟨f, mem, rfl⟩ := List.mem_map.mp (h.pending n hn)
    have issued := (h.issued f mem).mpr hn
    cases left : f.leftBy k except with
    | none =>
      rw [(Fetch.leftBy_none left).1] at issued
      cases issued
    | some f' =>
      exact List.mem_map.mpr ⟨f', mem_leaveFetches.mpr ⟨f, mem, left⟩, (Fetch.leftBy_some left).1⟩
  · obtain ⟨f, mem, left⟩ := mem_leaveFetches.mp hf
    obtain ⟨-, progress, -, filled⟩ := Fetch.leftBy_some left
    rw [progress]
    exact fun awaiting => filled awaiting (h.awaited f mem awaiting)

/-- A channel that leaves every fetch comes to a state in which it does not wait (R142, R143). -/
theorem PlaybackUnit.lawfulAt.leaveAll {u : PlaybackUnit} {m : MemPort} (h : u.lawfulAt m) (k : Channel)
    {c : ChannelRecord} (state : c.state ≠ .loading)
    (copied : (c.state = .priming ∨ c.state = .playing) → c.desc.isSome = true)
    (inFlight : c.inFlight = (u.channels.get k).inFlight) (queue : c.queue = []) :
    ({ u with channels := u.channels.set k c, fetches := leaveFetches u.fetches k none } : PlaybackUnit).lawfulAt
      m := by
  obtain ⟨distinct, issued, pending, awaited, fetched⟩ := h.leave k none
  refine ⟨h.port, distinct, issued, pending, awaited, fun j => ?_, fun j => ?_, h.cacheLength, h.cacheDistinct,
    fetched, fun j => ?_, fun j => ?_⟩
  all_goals
    dsimp only
    rw [Bank.get_set]
    by_cases hj : j = k
  · subst j
    rw [if_pos rfl, if_neg state, leaveFetches_none_waits]
    rfl
  · rw [if_neg hj, leaveFetches_waits _ _ hj]
    exact h.waits j
  · rw [if_pos hj]
    exact copied
  · rw [if_neg hj]
    exact h.copied j
  · rw [if_pos hj, hj, inFlight]
    exact h.inFlight k
  · rw [if_neg hj]
    exact h.inFlight j
  · have := h.room k
    rw [if_pos hj, queue, inFlight]
    simp only [List.length_nil]
    omega
  · rw [if_neg hj]
    exact h.room j

/-- A cache with the same entries in another order is as lawful. -/
theorem PlaybackUnit.lawfulAt.of_cache {u : PlaybackUnit} {m : MemPort} (h : u.lawfulAt m) {cache : List CacheEntry}
    (perm : cache.Perm u.cache) : ({ u with cache := cache } : PlaybackUnit).lawfulAt m :=
  { h with
    cacheLength := by rw [perm.length_eq]; exact h.cacheLength
    cacheDistinct := (perm.map _).nodup_iff.mpr h.cacheDistinct
    cacheFetched := fun e he => h.cacheFetched e (perm.subset he) }

theorem touchCache_perm (cache : List CacheEntry) (n : Pattern) : (touchCache cache n).Perm cache := by
  have split := List.filter_append_perm (fun e : CacheEntry => e.pattern == n) cache
  exact split

/-! ### PLAY and STOP (R142, R143) -/

/-- The patterns of the fetches after a channel joins (R146). -/
theorem joinFetch_patterns (fs : List Fetch) (k : Channel) (n : Pattern) :
    (joinFetch fs k n).map Fetch.pattern =
      if n ∈ fs.map Fetch.pattern then fs.map Fetch.pattern else fs.map Fetch.pattern ++ [n] := by
  have known : (fs.any fun f => f.pattern == n) = true ↔ n ∈ fs.map Fetch.pattern := by simp
  unfold joinFetch
  simp only [known]
  split
  · rw [List.map_map]
    refine List.map_congr_left fun f _ => ?_
    simp only [Function.comp]
    split <;> rfl
  · simp

/-- A fetch after a channel joins: one that was there, with the channel among its waiters when it is for `n`; or a new
one for `n`. -/
theorem mem_joinFetch {fs : List Fetch} {k : Channel} {n : Pattern} {f' : Fetch} (h : f' ∈ joinFetch fs k n) :
    (∃ f ∈ fs, f'.pattern = f.pattern ∧ f'.progress = f.progress
        ∧ ∀ j, j ∈ f'.waiters ↔ j ∈ f.waiters ∨ (j = k ∧ f.pattern = n))
      ∨ (n ∉ fs.map Fetch.pattern ∧ f' = ⟨n, [k], .awaitingIssue⟩) := by
  unfold joinFetch at h
  split at h
  case isTrue =>
    obtain ⟨f, hf, rfl⟩ := List.mem_map.mp h
    refine .inl ⟨f, hf, ?_⟩
    split
    case isTrue joins =>
      simp only [Bool.and_eq_true, beq_iff_eq] at joins
      exact ⟨rfl, rfl, fun j => by simp [joins.1]⟩
    case isFalse stays =>
      simp only [Bool.and_eq_true, beq_iff_eq, Bool.not_eq_true', not_and, Bool.not_eq_false,
        List.contains_iff_mem] at stays
      exact ⟨rfl, rfl, fun j => ⟨.inl, fun hj => hj.elim id fun ⟨e, he⟩ => e ▸ stays he⟩⟩
  case isFalse new =>
    have absent : n ∉ fs.map Fetch.pattern := by simpa using new
    rcases List.mem_append.mp h with hf | hf
    · refine .inl ⟨f', hf, rfl, rfl, fun j => ⟨.inl, fun hj => hj.elim id fun ⟨_, he⟩ => ?_⟩⟩
      exact absurd (List.mem_map.mpr ⟨f', hf, he⟩) absent
    · exact .inr ⟨absent, List.mem_singleton.mp hf⟩

/-- The number of fetches another channel waits on stays. -/
theorem joinFetch_waits (fs : List Fetch) {k j : Channel} (n : Pattern) (hj : j ≠ k) :
    ((joinFetch fs k n).filter fun f => f.waiters.contains j).length =
      (fs.filter fun f => f.waiters.contains j).length := by
  unfold joinFetch
  split
  · rw [← List.countP_eq_length_filter, ← List.countP_eq_length_filter, List.countP_map]
    refine List.countP_congr fun f _ => ?_
    simp only [Function.comp]
    split <;> simp [hj]
  · simp [hj]

/-- Where a channel waits on the fetch for `n` and on no other, it waits on one. -/
theorem waits_one {fs : List Fetch} {k : Channel} {n : Pattern} (distinct : (fs.map Fetch.pattern).Nodup)
    (known : n ∈ fs.map Fetch.pattern) (waits : ∀ f ∈ fs, k ∈ f.waiters ↔ f.pattern = n) :
    (fs.filter fun f => f.waiters.contains k).length = 1 := by
  rw [← List.count_eq_one_of_mem distinct known, List.count, List.countP_map, ← List.countP_eq_length_filter]
  exact List.countP_congr fun f hf => by simpa using waits f hf

/-- A miss of the cache: the channel waits on the fetch for its pattern alone (R143). -/
theorem PlaybackUnit.lawfulAt.miss {u : PlaybackUnit} {m : MemPort} (h : u.lawfulAt m) (k : Channel) {n : Pattern}
    {c : ChannelRecord} (uncached : ∀ e ∈ u.cache, e.pattern ≠ n) (state : c.state = .loading)
    (inFlight : c.inFlight = (u.channels.get k).inFlight) (queue : c.queue = []) :
    ({ u with
      channels := u.channels.set k c
      fetches := joinFetch (leaveFetches u.fetches k (some n)) k n } : PlaybackUnit).lawfulAt m := by
  obtain ⟨distinct, issued, pending, awaited, fetched⟩ := h.leave k (some n)
  have own : ∀ f ∈ leaveFetches u.fetches k (some n), k ∈ f.waiters → f.pattern = n := fun f' hf waits => by
    obtain ⟨f, -, left⟩ := mem_leaveFetches.mp hf
    obtain ⟨pattern, -, waiters, -⟩ := Fetch.leftBy_some left
    exact pattern.trans (Option.some.inj (((waiters k).mp waits).2 rfl))
  have others : ∀ j, j ≠ k → ((leaveFetches u.fetches k (some n)).filter fun f => f.waiters.contains j).length =
      if (u.channels.get j).state = .loading then 1 else 0 := fun j hj => by
    rw [leaveFetches_waits _ _ hj]
    exact h.waits j
  generalize leaveFetches u.fetches k (some n) = fs at *
  have patterns := joinFetch_patterns fs k n
  have distinct' : ((joinFetch fs k n).map Fetch.pattern).Nodup := by
    rw [patterns]
    split
    · exact distinct
    case isFalse new =>
      exact List.nodup_append.mpr ⟨distinct, List.nodup_singleton n, fun a ha b hb => by
        rintro rfl
        exact new (List.mem_singleton.mp hb ▸ ha)⟩
  have known : n ∈ (joinFetch fs k n).map Fetch.pattern := by
    rw [patterns]
    split
    · assumption
    · simp
  refine ⟨h.port, distinct', fun f' hf => ?_, fun i hi => ?_, fun f' hf => ?_, fun j => ?_, fun j => ?_,
    h.cacheLength, h.cacheDistinct, fun e he mem => ?_, fun j => ?_, fun j => ?_⟩
  · rcases mem_joinFetch hf with ⟨f, mem, pattern, progress, -⟩ | ⟨new, rfl⟩
    · rw [pattern, progress]
      exact issued f mem
    · exact ⟨nofun, fun hn => absurd (pending n hn) new⟩
  · dsimp only
    rw [patterns]
    split
    · exact pending i hi
    · exact List.mem_append_left _ (pending i hi)
  · rcases mem_joinFetch hf with ⟨f, mem, -, progress, waiters⟩ | ⟨-, rfl⟩
    · rw [progress]
      intro awaiting
      obtain ⟨j, hj⟩ := List.exists_mem_of_ne_nil _ (awaited f mem awaiting)
      exact List.ne_nil_of_mem ((waiters j).mpr (.inl hj))
    · exact fun _ => List.cons_ne_nil _ _
  · dsimp only
    rw [Bank.get_set]
    by_cases hj : j = k
    · subst j
      rw [if_pos rfl, if_pos state]
      refine waits_one distinct' known fun f' hf => ?_
      rcases mem_joinFetch hf with ⟨f, mem, pattern, -, waiters⟩ | ⟨-, rfl⟩
      · rw [waiters, pattern]
        exact ⟨fun waits => waits.elim (own f mem) And.right, fun e => .inr ⟨rfl, e⟩⟩
      · simp
    · rw [if_neg hj, joinFetch_waits _ _ hj]
      exact others j hj
  · dsimp only
    rw [Bank.get_set]
    split
    · rw [state]
      exact fun active => by rcases active with active | active <;> cases active
    · exact h.copied j
  · dsimp only at mem
    rw [patterns] at mem
    split at mem
    · exact fetched e he mem
    · rcases List.mem_append.mp mem with mem | mem
      · exact fetched e he mem
      · exact uncached e he (List.mem_singleton.mp mem)
  · dsimp only
    rw [Bank.get_set]
    split
    · subst j
      rw [inFlight]
      exact h.inFlight k
    · exact h.inFlight j
  · dsimp only
    rw [Bank.get_set]
    split
    · have := h.room k
      rw [queue, inFlight]
      simp only [List.length_nil]
      omega
    · exact h.room j

theorem Part.startPlay_prefetchLawful {s : Part} (k : Channel) (n : Pattern) (h : s.prefetchLawful) :
    (s.startPlay k n).prefetchLawful := by
  rw [Part.prefetchLawful_iff] at h ⊢
  unfold Part.startPlay
  dsimp only
  split
  case h_1 d _ =>
    have left := h.leaveAll k (c := ((s.channel k).begin n).prime d) (by simp [ChannelRecord.prime])
      (fun _ => rfl) rfl rfl
    exact left.of_cache (touchCache_perm s.play.cache n)
  case h_2 uncached =>
    refine h.miss k (fun e he same => ?_) rfl rfl rfl
    have found : ∀ e ∈ s.play.cache, ¬ (e.pattern == n) = true := by
      simpa [PlaybackUnit.cached] using uncached
    exact found e he (by simpa using same)

theorem Part.stopChannel_prefetchLawful {s : Part} (k : Channel) (h : s.prefetchLawful) :
    (s.stopChannel k).prefetchLawful := by
  rw [Part.prefetchLawful_iff] at h ⊢
  exact h.leaveAll k (by simp [ChannelRecord.halt]) (by simp [ChannelRecord.halt]) rfl rfl

/-! ### The arbiter (R160, R161) -/

/-- With no burst in flight nothing is fetched and nothing is on its way. -/
theorem MemPort.idle_spec {m : MemPort} (h : m.lawful) (idle : m.state = .idle) :
    m.burst = none ∧ m.fetching = none ∧ ∀ k, m.inFlightFor k = 0 := by
  have none : m.burst = none := by
    by_contra hb
    have := h.1.mp (Option.isSome_iff_ne_none.mpr hb)
    simp [idle] at this
  exact ⟨none, by rw [MemPort.fetching, none], fun k => by rw [MemPort.inFlightFor, none]⟩

theorem MemPort.issue_lawful (m : MemPort) {b : Burst} (size : b.size ≤ 16) : (m.issue b).lawful :=
  ⟨⟨fun _ => .inl rfl, fun _ => rfl⟩, fun b' hb => by obtain rfl := Option.some.inj hb; exact size⟩

/-- The issue of the oldest fetch that awaits it (R160). -/
theorem PlaybackUnit.lawfulAt.issueOldest {u : PlaybackUnit} {m : MemPort} (h : u.lawfulAt m) (idle : m.state = .idle)
    {f : Fetch} (hf : f ∈ u.fetches) :
    ({ u with fetches := issueFetch u.fetches f.pattern } : PlaybackUnit).lawfulAt
      (m.issue (descriptorBurst f.pattern)) := by
  obtain ⟨-, unfetched, none⟩ := MemPort.idle_spec h.port idle
  have patterns : (issueFetch u.fetches f.pattern).map Fetch.pattern = u.fetches.map Fetch.pattern := by
    rw [issueFetch, List.map_map]
    refine List.map_congr_left fun g _ => ?_
    simp only [Function.comp]
    split <;> rfl
  refine ⟨m.issue_lawful (Nat.le_refl 16), by rw [patterns]; exact h.distinct, fun g hg => ?_, fun n hn => ?_,
    fun g hg => ?_, fun k => ?_, h.copied, h.cacheLength, h.cacheDistinct, ?_, fun k => ?_, h.room⟩
  · obtain ⟨g', mem, rfl⟩ := List.mem_map.mp hg
    show _ ↔ some f.pattern = some _
    rw [Option.some_inj]
    split
    case isTrue same => exact ⟨fun _ => by simpa using Eq.symm (by simpa using same), fun _ => rfl⟩
    case isFalse other =>
      refine ⟨fun issued => ?_, fun same => absurd (by simpa using same.symm) other⟩
      rw [(h.issued g' mem)] at issued
      rw [unfetched] at issued
      cases issued
  · obtain rfl := Option.some.inj hn
    rw [patterns]
    exact List.mem_map.mpr ⟨f, hf, rfl⟩
  · obtain ⟨g', mem, rfl⟩ := List.mem_map.mp hg
    split
    · nofun
    · exact h.awaited g' mem
  · rw [← h.waits k, ← List.countP_eq_length_filter, ← List.countP_eq_length_filter, issueFetch, List.countP_map]
    refine List.countP_congr fun g _ => ?_
    simp only [Function.comp]
    split <;> rfl
  · rw [patterns]
    exact h.cacheFetched
  · rw [h.inFlight k, none]
    rfl

/-- The issue of a refill: its bytes have room in the queue of its channel (R148, R149). -/
theorem PlaybackUnit.lawfulAt.issueNext {u : PlaybackUnit} {m : MemPort} (h : u.lawfulAt m) (idle : m.state = .idle)
    {k : Channel} {d : Descriptor} (wants : (u.channels.get k).wantsRefill = true) :
    ({ u with channels := u.channels.set k ((u.channels.get k).issued d) } : PlaybackUnit).lawfulAt
      { m.issue (refillBurst k (u.channels.get k) d) with pointer := k } := by
  obtain ⟨-, unfetched, none⟩ := MemPort.idle_spec h.port idle
  have size : refillSize (u.channels.get k) d ≤ 16 := by unfold refillSize; omega
  have short : (u.channels.get k).queue.length + (u.channels.get k).inFlight ≤ 16 := by
    simp only [ChannelRecord.wantsRefill, Bool.and_eq_true, decide_eq_true_eq] at wants
    exact wants.1.2
  have fields : ∀ j, ((u.channels.set k ((u.channels.get k).issued d)).get j).state = (u.channels.get j).state
      ∧ ((u.channels.set k ((u.channels.get k).issued d)).get j).desc = (u.channels.get j).desc := fun j => by
    rw [Bank.get_set]
    split
    · subst j; exact ⟨rfl, rfl⟩
    · exact ⟨rfl, rfl⟩
  refine ⟨m.issue_lawful size, h.distinct, fun f hf => ?_, nofun, h.awaited, fun j => ?_, fun j => ?_, h.cacheLength,
    h.cacheDistinct, h.cacheFetched, fun j => ?_, fun j => ?_⟩
  · rw [h.issued f hf, unfetched]
    exact ⟨nofun, nofun⟩
  · rw [(fields j).1]
    exact h.waits j
  · rw [(fields j).1, (fields j).2]
    exact h.copied j
  · rw [Bank.get_set]
    split
    · subst j
      exact (if_pos rfl).symm
    case isFalse other =>
      rw [h.inFlight j, none]
      exact (if_neg fun e => other e.symm).symm
  · dsimp only
    rw [Bank.get_set]
    split
    · simp only [ChannelRecord.issued]
      omega
    · exact h.room j

theorem Part.arbitrate_prefetchLawful {s : Part} (h : s.prefetchLawful) : s.arbitrate.prefetchLawful := by
  unfold Part.arbitrate
  split
  case isFalse => exact h
  case isTrue idle =>
    have lawful := s.prefetchLawful_iff.mp h
    split
    case h_1 f next =>
      exact (Part.prefetchLawful_iff _).mpr (lawful.issueOldest idle (List.mem_of_find?_eq_some next))
    case h_2 =>
      split
      · exact h
      case h_2 k next =>
        split
        · exact h
        · exact (Part.prefetchLawful_iff _).mpr (lawful.issueNext idle (List.find?_some (p := fun k => (s.channel k).wantsRefill) next))

/-! ### The end of a burst (R147, R150, R151, R162) -/

theorem PlaybackUnit.mem_waitersOf {u : PlaybackUnit} {n : Pattern} {k : Channel} :
    k ∈ u.waitersOf n ↔ ∃ f ∈ u.fetches, f.pattern = n ∧ k ∈ f.waiters := by
  simp [PlaybackUnit.waitersOf]

theorem PlaybackUnit.waitersOf_nodup (u : PlaybackUnit) (n : Pattern) : (u.waitersOf n).Nodup :=
  allChannels_nodup.filter _

/-- Channels that copy a descriptor, one after another (R147). -/
theorem Part.primes_channel (s : Part) (ks : List Channel) (hk : ks.Nodup) (d : Descriptor) (j : Channel) :
    (ks.foldl (fun (s : Part) k => s.setChannel k ((s.channel k).prime d)) s).channel j =
      if j ∈ ks then (s.channel j).prime d else s.channel j :=
  foldl_each (fun (s : Part) k => s.setChannel k ((s.channel k).prime d)) (fun _ => ()) Part.channel
    (fun _ _ c => c.prime d) (fun _ _ => rfl) (fun s k j => by
      rw [Part.setChannel_channel]) ks hk s j

/-- Channels that halt, one after another (R154). -/
theorem Part.halts_channel (s : Part) (ks : List Channel) (hk : ks.Nodup) (r : HaltReason) (j : Channel) :
    (ks.foldl (fun d k => d.haltWithNotice k r) s).channel j =
      if j ∈ ks then (s.channel j).halt r else s.channel j :=
  foldl_each (fun d k => d.haltWithNotice k r) (fun _ => ()) Part.channel
    (fun _ _ c => c.halt r) (fun _ _ => rfl) (fun s k j => by
      rw [Part.haltWithNotice, Part.raise_channel, Part.setChannel_channel]) ks hk s j

/-- While a descriptor is fetched no refill is on its way. -/
theorem MemPort.inFlightFor_of_fetching {m : MemPort} {n : Pattern} (h : m.fetching = some n) (k : Channel) :
    m.inFlightFor k = 0 := by
  unfold MemPort.fetching at h
  unfold MemPort.inFlightFor
  split at h
  case h_1 burst => rw [burst]
  all_goals cases h

/-- The laws after the end of the descriptor burst for `n`: its waiters have come to a state in which they do not
wait, and the cache holds no pattern that is still fetched. -/
theorem PlaybackUnit.lawfulAt.fetched {u v : PlaybackUnit} {m m' : MemPort} {n : Pattern} (h : u.lawfulAt m)
    (fetching : m.fetching = some n) (lawful : m'.lawful) (ended : m'.burst = none)
    (fetches : v.fetches = u.fetches.filter fun f => f.pattern != n)
    (others : ∀ k, k ∉ u.waitersOf n → v.channels.get k = u.channels.get k)
    (waiters : ∀ k ∈ u.waitersOf n, (v.channels.get k).state ≠ .loading
      ∧ (((v.channels.get k).state = .priming ∨ (v.channels.get k).state = .playing) →
          (v.channels.get k).desc.isSome = true)
      ∧ (v.channels.get k).inFlight = (u.channels.get k).inFlight ∧ (v.channels.get k).queue = [])
    (cacheLength : v.cache.length ≤ 4) (cacheDistinct : (v.cache.map CacheEntry.pattern).Nodup)
    (cache : ∀ e ∈ v.cache, e.pattern = n ∨ e ∈ u.cache) : v.lawfulAt m' := by
  have unfetched : m'.fetching = none := by rw [MemPort.fetching, ended]
  have landed : ∀ k, m'.inFlightFor k = 0 := fun k => by rw [MemPort.inFlightFor, ended]
  have empty : ∀ k, (u.channels.get k).inFlight = 0 := fun k => by
    rw [h.inFlight k, MemPort.inFlightFor_of_fetching fetching]
  have sub : (v.fetches.map Fetch.pattern).Sublist (u.fetches.map Fetch.pattern) := by
    rw [fetches]
    exact List.filter_sublist.map _
  refine ⟨lawful, h.distinct.sublist sub, fun f hf => ?_, fun i hi => ?_, fun f hf => ?_, fun k => ?_, fun k => ?_,
    cacheLength, cacheDistinct, fun e he mem => ?_, fun k => ?_, fun k => ?_⟩
  · rw [fetches] at hf
    obtain ⟨mem, other⟩ := List.mem_filter.mp hf
    rw [unfetched, h.issued f mem, fetching]
    exact ⟨fun same => absurd (Option.some.inj same).symm (by simpa using other), nofun⟩
  · rw [unfetched] at hi
    cases hi
  · rw [fetches] at hf
    exact h.awaited f (List.mem_filter.mp hf).1
  · have all := h.waits k
    rw [← List.countP_eq_length_filter, List.countP_eq_countP_filter_add _ _ fun f => f.pattern != n] at all
    rw [fetches, ← List.countP_eq_length_filter]
    by_cases waits : k ∈ u.waitersOf n
    · rw [if_neg (waiters k waits).1]
      obtain ⟨f, mem, same, waiting⟩ := PlaybackUnit.mem_waitersOf.mp waits
      have some : 0 < (u.fetches.filter fun f => ! (f.pattern != n)).countP fun f => f.waiters.contains k :=
        List.countP_pos_iff.mpr ⟨f, List.mem_filter.mpr ⟨mem, by simpa using same⟩, by simpa using waiting⟩
      split at all <;> omega
    · rw [others k waits, ← all]
      have none : (u.fetches.filter fun f => ! (f.pattern != n)).countP (fun f => f.waiters.contains k) = 0 := by
        refine List.countP_eq_zero.mpr fun f hf => ?_
        obtain ⟨mem, same⟩ := List.mem_filter.mp hf
        intro waiting
        exact waits (PlaybackUnit.mem_waitersOf.mpr ⟨f, mem, by simpa using same, by simpa using waiting⟩)
      omega
  · by_cases waits : k ∈ u.waitersOf n
    · exact (waiters k waits).2.1
    · rw [others k waits]
      exact h.copied k
  · rw [fetches] at mem
    obtain ⟨f, hf, same⟩ := List.mem_map.mp mem
    obtain ⟨hf, other⟩ := List.mem_filter.mp hf
    rcases cache e he with own | old
    · exact absurd (same.trans own) (by simpa using other)
    · exact h.cacheFetched e old (List.mem_map.mpr ⟨f, hf, same⟩)
  · rw [landed]
    by_cases waits : k ∈ u.waitersOf n
    · rw [(waiters k waits).2.2.1, empty]
    · rw [others k waits, empty]
  · by_cases waits : k ∈ u.waitersOf n
    · rw [(waiters k waits).2.2.1, (waiters k waits).2.2.2, empty]
      exact Nat.zero_le _
    · rw [others k waits]
      exact h.room k

theorem Part.fetchCompleted_lawfulAt {s : Part} {n : Pattern} (record : List Byte) {m : MemPort} (h : s.prefetchLawful)
    (fetching : s.mem.fetching = some n) (lawful : m.lawful) (ended : m.burst = none) :
    (s.fetchCompleted n record).play.lawfulAt m := by
  have old := s.prefetchLawful_iff.mp h
  unfold Part.fetchCompleted
  dsimp only
  split
  case h_1 d _ =>
    let s' := (s.setFetches (s.play.fetches.filter fun f => f.pattern != n)).setCache (installed s.play.cache n d)
    have channel := s'.primes_channel (s.play.waitersOf n) (s.play.waitersOf_nodup n) d
    have rest := foldl_keeps (fun (s : Part) k => s.setChannel k ((s.channel k).prime d))
      (fun s => (s.play.cache, s.play.fetches)) (fun _ _ => rfl) (s.play.waitersOf n) s'
    generalize (s.play.waitersOf n).foldl (fun (s : Part) k => s.setChannel k ((s.channel k).prime d)) s' = t
      at channel rest ⊢
    simp only [Prod.mk.injEq] at rest
    obtain ⟨cache, fetches⟩ := rest
    refine old.fetched fetching lawful ended fetches (fun k waits => ?_) (fun k waits => ?_) ?_ ?_ fun e he => ?_
    · exact (channel k).trans (if_neg waits)
    · have primed : t.play.channels.get k = (s.channel k).prime d := (channel k).trans (if_pos waits)
      rw [primed]
      exact ⟨nofun, fun _ => rfl, rfl, rfl⟩
    · rw [cache]
      show (⟨n, d⟩ :: s.play.cache.take 3 : List CacheEntry).length ≤ 4
      simp only [List.length_cons, List.length_take]
      omega
    · rw [cache]
      show ((⟨n, d⟩ :: s.play.cache.take 3 : List CacheEntry).map CacheEntry.pattern).Nodup
      rw [List.map_cons, List.nodup_cons]
      refine ⟨fun mem => ?_, old.cacheDistinct.sublist ((List.take_sublist 3 _).map _)⟩
      obtain ⟨e, he, same⟩ := List.mem_map.mp mem
      exact old.cacheFetched e (List.mem_of_mem_take he) (same ▸ old.pending n fetching)
    · rw [cache] at he
      rcases List.mem_cons.mp he with rfl | he
      · exact .inl rfl
      · exact .inr (List.mem_of_mem_take he)
  case h_2 =>
    let s' := s.setFetches (s.play.fetches.filter fun f => f.pattern != n)
    have channel := s'.halts_channel (s.play.waitersOf n) (s.play.waitersOf_nodup n) .badPattern
    have rest := foldl_keeps (fun (s : Part) k => s.haltWithNotice k .badPattern)
      (fun s => (s.play.cache, s.play.fetches)) (fun _ _ => rfl) (s.play.waitersOf n) s'
    generalize (s.play.waitersOf n).foldl (fun (s : Part) k => s.haltWithNotice k .badPattern) s' = t
      at channel rest ⊢
    simp only [Prod.mk.injEq] at rest
    obtain ⟨cache, fetches⟩ := rest
    have same : t.play.cache = s.play.cache := cache
    refine old.fetched fetching lawful ended fetches (fun k waits => ?_) (fun k waits => ?_)
      (by rw [same]; exact old.cacheLength) (by rw [same]; exact old.cacheDistinct) fun e he => .inr (same ▸ he)
    · exact (channel k).trans (if_neg waits)
    · have halted : t.play.channels.get k = (s.channel k).halt .badPattern := (channel k).trans (if_pos waits)
      rw [halted]
      simp [ChannelRecord.halt, Part.channel]

/-- A record after its refill: nothing is on its way, and its queue has grown by the bytes at most (R150, R151). -/
theorem ChannelRecord.refilled_spec (c : ChannelRecord) (e : Half) (bytes : List Byte) :
    ((c.refilled e bytes).state = c.state ∨ c.state = .priming ∧ (c.refilled e bytes).state = .playing)
      ∧ (c.refilled e bytes).desc = c.desc ∧ (c.refilled e bytes).inFlight = 0
      ∧ (c.refilled e bytes).queue.length ≤ c.queue.length + bytes.length := by
  unfold ChannelRecord.refilled
  dsimp only
  split
  · split
    case isTrue primed => exact ⟨.inr ⟨primed.1, rfl⟩, rfl, rfl, by simp⟩
    · exact ⟨.inl rfl, rfl, rfl, by simp⟩
  · exact ⟨.inl rfl, rfl, rfl, by simp⟩

/-- The laws after the end of the refill burst of channel `k`. -/
theorem PlaybackUnit.lawfulAt.refilled {u : PlaybackUnit} {m m' : MemPort} (h : u.lawfulAt m) {k : Channel} {e : Half}
    {a : Addr} {size : Nat} (burst : m.burst = some ⟨.refill k e, a, size⟩) (lawful : m'.lawful)
    (ended : m'.burst = none) {bytes : List Byte} (read : bytes.length = size) :
    ({ u with channels := u.channels.set k ((u.channels.get k).refilled e bytes) } : PlaybackUnit).lawfulAt m' := by
  have unfetched : m.fetching = none := by rw [MemPort.fetching, burst]
  have unfetched' : m'.fetching = none := by rw [MemPort.fetching, ended]
  have landed : ∀ j, m'.inFlightFor j = 0 := fun j => by rw [MemPort.inFlightFor, ended]
  have flying : ∀ j, (u.channels.get j).inFlight = if k = j then size else 0 := fun j => by
    rw [h.inFlight j, MemPort.inFlightFor, burst]
  obtain ⟨state, desc, inFlight, queue⟩ := (u.channels.get k).refilled_spec e bytes
  refine ⟨lawful, h.distinct, fun f hf => ?_, fun n hn => ?_, h.awaited, fun j => ?_, fun j => ?_, h.cacheLength,
    h.cacheDistinct, h.cacheFetched, fun j => ?_, fun j => ?_⟩
  · rw [h.issued f hf, unfetched, unfetched']
  · rw [unfetched'] at hn
    cases hn
  all_goals
    dsimp only
    rw [Bank.get_set]
    split
  · subst j
    rw [h.waits k]
    rcases state with same | ⟨before, after⟩
    · rw [same]
    · simp [before, after]
  · exact h.waits j
  · rw [desc]
    intro active
    refine h.copied k ?_
    rcases state with same | ⟨before, -⟩
    · rwa [same] at active
    · exact .inl before
  · exact h.copied j
  · rw [inFlight, landed]
  case isFalse other => rw [flying, if_neg fun same => other same.symm, landed]
  · have := h.room k
    rw [flying, if_pos rfl] at this
    rw [inFlight]
    omega
  · exact h.room j

/-- The end of the burst in flight, whatever the state the port comes to (R162). -/
theorem Part.deliver_lawfulAt {s : Part} {b : Burst} (h : s.prefetchLawful) (burst : s.mem.burst = some b)
    {bytes : List Byte} (read : bytes.length = b.size) {m : MemPort} (lawful : m.lawful) (ended : m.burst = none) :
    (s.deliver b bytes).play.lawfulAt m := by
  obtain ⟨kind, a, size⟩ := b
  unfold Part.deliver
  cases kind with
  | descriptor n => exact Part.fetchCompleted_lawfulAt bytes h (by rw [MemPort.fetching, burst]) lawful ended
  | refill k e => exact (s.prefetchLawful_iff.mp h).refilled burst lawful ended read

theorem Part.completeBurst_prefetchLawful {s : Part} (bytes : List Byte) (h : s.prefetchLawful) :
    (s.completeBurst bytes).prefetchLawful := by
  unfold Part.completeBurst
  split
  case h_1 => exact h
  case h_2 b burst =>
    have busy := h.1.1.mp (by rw [burst]; rfl)
    have ended : ∀ m : MemPort, m.state ≠ .reading → m.state ≠ .loanPending → m.burst = none →
        (({ s with freeCount := freeAfter b.size s.freeCount bytes } : Part).deliver b
          (fitBytes b.size s.freeCount bytes)).play.lawfulAt m := fun m r l none =>
      Part.deliver_lawfulAt (s := { s with freeCount := freeAfter b.size s.freeCount bytes }) h burst
        (fitBytes_length ..) ⟨by simp [none, r, l], by simp [none]⟩ none
    dsimp only
    rw [Part.prefetchLawful_iff]
    split
    case h_1 => exact ended _ nofun nofun rfl
    case h_2 => exact ended _ nofun nofun rfl
    all_goals simp_all

/-! ### The loan (R163 to R165) -/

/-- A grant takes the port from IDLE, where no burst is in flight. -/
theorem PlaybackUnit.lawfulAt.idle_loaned {u : PlaybackUnit} {m m' : MemPort} (h : u.lawfulAt m)
    (quiet : m.state = .idle ∨ m.state = .loaned) (quiet' : m'.state = .idle ∨ m'.state = .loaned)
    (burst : m'.burst = m.burst) : u.lawfulAt m' := by
  have none : m.burst = none := by
    by_contra hb
    have := h.port.1.mp (Option.isSome_iff_ne_none.mpr hb)
    rcases quiet with q | q <;> simp [q] at this
  refine h.of_mem ⟨?_, ?_⟩ burst
  · rcases quiet' with q | q <;> simp [burst, none, q]
  · simp [burst, none]

/-- READING and LOAN_PENDING have the same laws. -/
theorem PlaybackUnit.lawfulAt.reading_pending {u : PlaybackUnit} {m m' : MemPort} (h : u.lawfulAt m)
    (busy : m.state = .reading ∨ m.state = .loanPending) (busy' : m'.state = .reading ∨ m'.state = .loanPending)
    (burst : m'.burst = m.burst) : u.lawfulAt m' := by
  refine h.of_mem ⟨?_, ?_⟩ burst
  · rw [burst]
    exact ⟨fun _ => busy', fun _ => h.port.1.mpr busy⟩
  · rw [burst]
    exact h.port.2

theorem Part.takeLoanReq_prefetchLawful {s : Part} (h : s.prefetchLawful) : s.takeLoanReq.prefetchLawful := by
  have lawful := s.prefetchLawful_iff.mp h
  unfold Part.takeLoanReq
  split
  · exact (Part.prefetchLawful_iff _).mpr (lawful.of_state rfl rfl)
  · split
    case h_1 idle => exact (Part.prefetchLawful_iff _).mpr (lawful.idle_loaned (.inl idle) (.inr rfl) rfl)
    case h_2 reading =>
      exact (Part.prefetchLawful_iff _).mpr (lawful.reading_pending (.inl reading) (.inr rfl) rfl)
    all_goals exact h

/-- At a return the cache and the fetches are empty, and every channel that waits or plays halts (R165). -/
theorem Part.returned_prefetchLawful {s : Part} (loaned : s.mem.state = .loaned) (h : s.prefetchLawful) :
    s.returned.prefetchLawful := by
  have lawful := s.prefetchLawful_iff.mp h
  unfold Part.returned
  dsimp only
  refine Part.arbitrate_prefetchLawful ?_
  let s' := (s.drivePins.setCache []).setFetches []
  have channel := s'.halts_channel s.retakenChannels (allChannels_nodup.filter _) .memoryRetaken
  have rest := foldl_keeps (fun (s : Part) k => s.haltWithNotice k .memoryRetaken)
    (fun s => (s.play.cache, s.play.fetches, s.mem)) (fun _ _ => rfl) s.retakenChannels s'
  generalize s.retakenChannels.foldl (fun (s : Part) k => s.haltWithNotice k .memoryRetaken) s' = t
    at channel rest ⊢
  simp only [Prod.mk.injEq] at rest
  obtain ⟨cache, fetches, mem⟩ := rest
  have retaken : ∀ k, k ∈ s.retakenChannels ↔ (s.channel k).dependsOnMemory = true := fun k => by
    simp [Part.retakenChannels]
  have none : s.mem.burst = none := by
    by_contra hb
    have := lawful.port.1.mp (Option.isSome_iff_ne_none.mpr hb)
    simp [loaned] at this
  have empty : ∀ k, (s.channel k).inFlight = 0 := fun k => by
    have := lawful.inFlight k
    rwa [MemPort.inFlightFor, none] at this
  have state : ∀ k, (t.channel k).dependsOnMemory = false ∧ (t.channel k).inFlight = 0
      ∧ (t.channel k).queue.length ≤ 32 := fun k => by
    rw [channel k]
    split
    · exact ⟨rfl, empty k, Nat.zero_le _⟩
    case isFalse stays =>
      have room := lawful.room k
      refine ⟨?_, empty k, ?_⟩
      · rw [retaken] at stays
        exact Bool.not_eq_true _ ▸ stays
      · show (s.play.channels.get k).queue.length ≤ 32
        omega
  have still : ∀ k, (t.channel k).state ≠ .loading ∧ (t.channel k).state ≠ .priming
      ∧ (t.channel k).state ≠ .playing := fun k => by
    have := (state k).1
    simp only [ChannelRecord.dependsOnMemory, Bool.or_eq_false_iff, beq_eq_false_iff_ne] at this
    exact ⟨this.1.1, this.1.2, this.2⟩
  have port : t.mem.state = .idle ∧ t.mem.burst = Option.none := by
    rw [mem]
    exact ⟨rfl, none⟩
  rw [Part.prefetchLawful_iff]
  refine PlaybackUnit.lawfulAt.mk (u := t.play) (m := t.mem) ⟨by simp [port], by simp [port]⟩ ?_ ?_ ?_ ?_
    (fun k => ?_) (fun k active => ?_) ?_ ?_ ?_ (fun k => ?_) fun k => ?_
  · rw [fetches]
    exact List.nodup_nil
  · rw [fetches]
    nofun
  · simp [MemPort.fetching, port]
  · rw [fetches]
    nofun
  · rw [fetches]
    exact (if_neg (still k).1).symm
  · exact absurd active (not_or.mpr (still k).2)
  · rw [cache]
    exact Nat.zero_le _
  · rw [cache]
    exact List.nodup_nil
  · rw [cache]
    nofun
  · simp only [MemPort.inFlightFor, port]
    exact (state k).2.1
  · have := (state k).2.1
    have := (state k).2.2
    show (t.channel k).queue.length + (t.channel k).inFlight ≤ 32
    omega

theorem Part.takeLoanRelease_prefetchLawful {s : Part} (h : s.prefetchLawful) :
    s.takeLoanRelease.prefetchLawful := by
  have lawful := s.prefetchLawful_iff.mp h
  unfold Part.takeLoanRelease
  split
  · exact (Part.prefetchLawful_iff _).mpr (lawful.of_state rfl rfl)
  · split
    case h_1 pending =>
      exact (Part.prefetchLawful_iff _).mpr (lawful.reading_pending (.inr pending) (.inl rfl) rfl)
    case h_2 loaned => exact Part.returned_prefetchLawful loaned h
    all_goals exact h

/-! ### Every step -/

/-- Blocks other than the playback unit and the memory port make no difference. -/
theorem Part.prefetchLawful_of_same {s t : Part} (play : t.play = s.play)
    (mem : t.mem.state = s.mem.state ∧ t.mem.burst = s.mem.burst) (h : s.prefetchLawful) : t.prefetchLawful := by
  rw [Part.prefetchLawful_iff] at h ⊢
  rw [play]
  exact h.of_state mem.1 mem.2

theorem Part.loseReference_prefetchLawful {s : Part} (reason : RefReason) (h : s.prefetchLawful) :
    (s.loseReference reason).prefetchLawful := by
  unfold Part.loseReference
  dsimp only
  split
  · exact Part.frameStart_prefetchLawful (s := (s.setRef s.ref.lost).raiseReference reason) _ h
  · exact h

theorem Part.lockChanged_prefetchLawful {s : Part} (p : Port) (before after : LockState) (h : s.prefetchLawful) :
    (s.lockChanged p before after).prefetchLawful := by
  unfold Part.lockChanged
  split
  · rw [Part.clearCandidate_eq]
    exact h
  split
  · exact Part.loseReference_prefetchLawful _ h
  · exact h

theorem Part.setReferences_prefetchLawful {s : Part} (list : List Port) (revertive : Bool) (h : s.prefetchLawful) :
    (s.setReferences list revertive).prefetchLawful := by
  have cleared : ∀ (r : RefUnit) reason, ((s.setRef r).clearCandidate reason).prefetchLawful := fun r reason => by
    rw [Part.clearCandidate_eq]
    exact h
  have lost : ∀ (r : RefUnit) reason, ((s.setRef r).loseReference reason).prefetchLawful := fun r reason =>
    Part.loseReference_prefetchLawful (s := s.setRef r) reason h
  unfold Part.setReferences
  dsimp only
  split
  · split
    · exact lost _ _
    split
    · exact cleared _ _
    · exact h
  · split
    · exact cleared _ _
    · exact h
  · exact h
  · exact h

theorem Part.Action.prefetchLawful {s t : Part} {p : Port} (e : s.Action p t) (h : s.prefetchLawful) :
    t.prefetchLawful := by
  cases e with
  | setReferences list revertive _ => exact Part.setReferences_prefetchLawful list revertive h
  | play k n => exact Part.startPlay_prefetchLawful k n h
  | stop k => exact Part.stopChannel_prefetchLawful k h
  | release os _ =>
    rw [Part.removeEdits_eq]
    exact h
  | _ => exact h

theorem PlaybackUnit.reset_lawfulAt {m : MemPort} (state : m.state = .idle) (burst : m.burst = none) :
    PlaybackUnit.reset.lawfulAt m := by
  have record : ∀ k, PlaybackUnit.reset.channels.get k = .reset := fun k => Bank.get_all k _
  refine ⟨⟨by simp [state, burst], by simp [burst]⟩, List.nodup_nil, nofun, by simp [MemPort.fetching, burst], nofun,
    fun k => ?_, fun k => ?_, Nat.zero_le _, List.nodup_nil, nofun, fun k => ?_, fun k => ?_⟩
  all_goals rw [record]
  · rfl
  · exact fun active => by rcases active with active | active <;> cases active
  · rw [MemPort.inFlightFor, burst]
    rfl
  · exact Nat.zero_le _

/-- The laws of the playback unit and the memory port are kept by every event of the part. -/
theorem Part.prefetchLaw : Part.Law Part.prefetchLawful where
  standing h hs := Part.prefetchLawful_of_same h.1.2.2.2.2.2.1 h.1.2.2.2.2.2.2.1 hs
  action _ e hs := e.prefetchLawful hs
  held _ := (Part.prefetchLawful_iff _).mpr (PlaybackUnit.reset_lawfulAt rfl rfl)
  release {s} x _ hs := by
    unfold Part.release
    dsimp only
    have sampled : ({ s.sampleStraps x with inReset := false } : Part).prefetchLawful :=
      Part.prefetchLawful_of_same (s := s) rfl ⟨rfl, rfl⟩ hs
    split
    · exact Part.takeLoanReq_prefetchLawful sampled
    · exact sampled
  frameStart cause _ hs := Part.frameStart_prefetchLawful cause hs
  lapseAhead p _ hs := by
    rw [Part.lapseAhead_eq]
    exact hs
  found _ _ records _ hs := Part.prefetchLawful_of_same records.2.2.2.2.2.1 records.2.2.2.2.2.2.1 hs
  ended _ _ records _ _ _ hs := Part.lockChanged_prefetchLawful _ _ _
    (Part.prefetchLawful_of_same records.2.2.2.2.2.1 records.2.2.2.2.2.2.1 hs)
  left {s p dest} dout cause counted _ _ _ hs := by
    refine Part.lockChanged_prefetchLawful _ _ _ ?_
    refine Part.prefetchLawful_of_same (s := s) ?_ ?_ hs
    · rw [Part.raisePortState_play, Part.actionEffect_eq]
      rfl
    · rw [Part.raisePortState_mem, Part.actionEffect_eq]
      exact ⟨rfl, rfl⟩
  arbitrate _ hs := Part.arbitrate_prefetchLawful hs
  completeBurst bytes _ hs := Part.completeBurst_prefetchLawful bytes hs
  loanReq _ hs := Part.takeLoanReq_prefetchLawful hs
  loanRelease _ hs := Part.takeLoanRelease_prefetchLawful hs

/-- Settles O59: each event of the part keeps the laws of the queues, the cache, the fetches and the burst, and a step
is one event. -/
theorem everyStepKeepsThePrefetchLaws : Obligations.EveryStepKeepsThePrefetchLaws :=
  fun _ _ => Part.prefetchLaw.keeps_step

end Sys2Proof.Machine
end

section
/-! Chapter 2, the lapse timers at an exchange frame start (R28, R29): what the count of one timer does, and what the
counts of all four leave of the timers, the lists and the holders. -/

namespace Sys2Proof.Machine

open Sys2Proof

section
variable (s : Part)

/-- The count of one timer: it rises out of lock below 2048, and on reaching 2048 its port lapses (R28). -/
theorem Part.countLapse_cases (p : Port) :
    (s.lapses p ∧ s.countLapse p = (s.setLapseTimer p 2048).lapsePort p)
      ∨ (¬ s.lapses p ∧ s.inLock p = false ∧ s.lapseTimer p < 2048
          ∧ s.countLapse p = s.setLapseTimer p (s.lapseTimer p + 1))
      ∨ (¬ (s.inLock p = false ∧ s.lapseTimer p < 2048) ∧ s.countLapse p = s) := by
  unfold Part.countLapse
  by_cases hl : s.inLock p = true
  · exact .inr (.inr ⟨by simp [hl], by rw [if_pos hl]⟩)
  rw [if_neg hl]
  rw [Bool.not_eq_true] at hl
  by_cases below : s.lapseTimer p < 2048
  · rw [if_pos below]
    dsimp only
    by_cases reaches : s.lapseTimer p + 1 = 2048
    · rw [if_pos reaches, reaches]
      exact .inl ⟨⟨hl, by omega⟩, rfl⟩
    · rw [if_neg reaches]
      exact .inr (.inl ⟨fun h => reaches (by rw [h.2]), hl, below, rfl⟩)
  · rw [if_neg below]
    exact .inr (.inr ⟨by simp [below], rfl⟩)

theorem Part.lapsePort_lapseTimer (p q : Port) : (s.lapsePort p).lapseTimer q = s.lapseTimer q := by
  rw [Part.lapsePort_eq]
  simp [Part.lapseTimer]

/-- The timer of a port after an exchange frame start, by whether the port is in lock (R28). -/
def countedTimer (locked : Bool) (n : Nat) : Nat := if locked = false ∧ n < 2048 then n + 1 else n

theorem Part.countLapse_lapseTimer (p q : Port) :
    (s.countLapse p).lapseTimer q =
      if q = p then countedTimer (s.inLock p) (s.lapseTimer p) else s.lapseTimer q := by
  rcases s.countLapse_cases p with ⟨⟨out, full⟩, eq⟩ | ⟨-, out, below, eq⟩ | ⟨stays, eq⟩ <;> rw [eq]
  · rw [Part.lapsePort_lapseTimer, Part.setLapseTimer_lapseTimer, out, full]
    rfl
  · rw [Part.setLapseTimer_lapseTimer, countedTimer,
      if_pos (show s.inLock p = false ∧ s.lapseTimer p < 2048 from ⟨out, below⟩)]
  · rw [countedTimer, if_neg stays]
    split
    · subst q; rfl
    · rfl

/-- One timer's count leaves the lapses of the other ports as they were. -/
theorem Part.countLapse_lapses {p q : Port} (hq : q ≠ p) : (s.countLapse p).lapses q ↔ s.lapses q := by
  rw [Part.lapses, Part.countLapse_inLock, Part.countLapse_lapseTimer, if_neg hq]

theorem Part.countLapse_list (p q : Port) :
    (s.countLapse p).list q = if q = p ∧ s.lapses p then .cleared else s.list q := by
  rcases s.countLapse_cases p with ⟨lapses, eq⟩ | ⟨stays, -, -, eq⟩ | ⟨stays, eq⟩ <;> rw [eq]
  · rw [Part.lapsePort_list]
    exact if_congr ⟨fun own => ⟨own, lapses⟩, And.left⟩ rfl rfl
  · rw [if_neg fun h => stays h.2]
    rfl
  · rw [if_neg fun h => stays ⟨h.2.1, by rw [h.2.2]; decide⟩]

theorem Part.countLapse_holder (p : Port) (o : ClaimObject) :
    (s.countLapse p).claims.holder o =
      if s.lapses p ∧ s.claims.holder o = some p then none else s.claims.holder o := by
  rcases s.countLapse_cases p with ⟨lapses, eq⟩ | ⟨stays, -, -, eq⟩ | ⟨stays, eq⟩ <;> rw [eq]
  · rw [Part.lapsePort_holder, Part.setLapseTimer_holder]
    exact if_congr ⟨fun held => ⟨lapses, held⟩, And.right⟩ rfl rfl
  · rw [if_neg fun h => stays h.1, Part.setLapseTimer_holder]
  · rw [if_neg fun h => stays ⟨h.1.1, by rw [h.1.2]; decide⟩]

/-- Every timer is counted once. -/
theorem Part.countLapses_lapseTimer (q : Port) :
    s.countLapses.lapseTimer q = countedTimer (s.inLock q) (s.lapseTimer q) := by
  have h := foldl_each Part.countLapse Part.inLock Part.lapseTimer (fun locked p n => countedTimer (locked p) n)
    (fun v p => funext fun x => v.countLapse_inLock p x) (fun v p x => v.countLapse_lapseTimer p x)
    allPorts allPorts_nodup s q
  rwa [if_pos (mem_allPorts q)] at h

/-- The lists after the counts: those of the ports that lapse are cleared. -/
theorem Part.countLapses_list (q : Port) :
    s.countLapses.list q = if s.lapses q then .cleared else s.list q := by
  have h := foldl_each Part.countLapse Part.inLock (fun v x => (v.list x, v.lapseTimer x))
    (fun locked p y => (if locked p = false ∧ y.2 = 2047 then .cleared else y.1, countedTimer (locked p) y.2))
    (fun v p => funext fun x => v.countLapse_inLock p x)
    (fun v p x => by
      rw [v.countLapse_list p x, v.countLapse_lapseTimer p x]
      by_cases hx : x = p
      · subst x; simp
      · simp [hx]) allPorts allPorts_nodup s q
  rw [if_pos (mem_allPorts q)] at h
  exact congrArg Prod.fst h

theorem Part.foldl_countLapse_holder (ps : List Port) (hp : ps.Nodup) (o : ClaimObject) :
    (ps.foldl Part.countLapse s).claims.holder o =
      if ∃ p ∈ ps, s.lapses p ∧ s.claims.holder o = some p then none else s.claims.holder o := by
  induction ps generalizing s with
  | nil => simp
  | cons p ps ih =>
    obtain ⟨new, distinct⟩ := List.nodup_cons.mp hp
    rw [List.foldl_cons, ih _ distinct, Part.countLapse_holder]
    have others : ∀ q ∈ ps, ((s.countLapse p).lapses q ↔ s.lapses q) := fun q hq =>
      s.countLapse_lapses fun e => new (e ▸ hq)
    by_cases own : s.lapses p ∧ s.claims.holder o = some p
    · have among : ∃ q ∈ p :: ps, s.lapses q ∧ s.claims.holder o = some q := ⟨p, List.mem_cons_self, own⟩
      simp only [if_pos own, if_pos among, ite_self]
    · simp only [if_neg own]
      refine if_congr ?_ rfl rfl
      simp only [List.mem_cons]
      constructor
      · rintro ⟨q, hq, lapses, held⟩
        exact ⟨q, .inr hq, (others q hq).mp lapses, held⟩
      · rintro ⟨q, rfl | hq, lapses, held⟩
        · exact absurd ⟨lapses, held⟩ own
        · exact ⟨q, hq, (others q hq).mpr lapses, held⟩

/-- The holders after the counts: the holdings of the ports that lapse are free (R29). -/
theorem Part.countLapses_holder (o : ClaimObject) :
    s.countLapses.claims.holder o =
      if ∃ p, s.lapses p ∧ s.claims.holder o = some p then none else s.claims.holder o := by
  rw [Part.countLapses, Part.foldl_countLapse_holder s allPorts allPorts_nodup]
  simp

/-! ### At an exchange frame start -/

/-- The part at an exchange frame start after its frames are written, before the lapse timers are counted. -/
def Part.assembledFrames : Part := s.switched.writeFrames s.yields s.playbackBytes

theorem Part.frameStart_eq_counted (cause : StartCause) :
    s.frameStart cause = s.assembledFrames.countLapses.referenceShare cause := rfl

@[simp] theorem Part.assembledFrames_claims : s.assembledFrames.claims = s.claims := by
  simp [Part.assembledFrames, Part.switched]

@[simp] theorem Part.assembledFrames_inLock (q : Port) : s.assembledFrames.inLock q = s.inLock q := by
  simp [Part.assembledFrames]

@[simp] theorem Part.assembledFrames_lapseTimer (q : Port) : s.assembledFrames.lapseTimer q = s.lapseTimer q := by
  simp [Part.lapseTimer]

theorem Part.assembledFrames_list (q : Port) :
    s.assembledFrames.list q = if (s.list q).due (s.exch.counter + 1) then .cleared else s.list q := by
  have lists : s.assembledFrames.lists = s.switched.lists := by simp [Part.assembledFrames]
  have before : s.advanceCounter.readStores.takeBytes.list q = s.list q := by
    rw [Part.list, Part.takeBytes_lists, Part.readStores_lists]
    rfl
  have number : s.advanceCounter.readStores.takeBytes.frameNumber = s.exch.counter + 1 := by
    rw [Part.frameNumber, Part.takeBytes_exch, Part.readStores_exch]
    rfl
  rw [Part.list, lists]
  show s.switched.list q = _
  rw [Part.switched, Part.switchover_list, before, number]

theorem Part.assembledFrames_lapses (q : Port) : s.assembledFrames.lapses q ↔ s.lapses q := by simp [Part.lapses]

variable (cause : StartCause)

theorem Part.frameStart_lapseTimer (q : Port) :
    (s.frameStart cause).lapseTimer q = countedTimer (s.inLock q) (s.lapseTimer q) := by
  rw [Part.frameStart_eq_counted, Part.lapseTimer, Part.referenceShare_claims]
  show s.assembledFrames.countLapses.lapseTimer q = _
  rw [Part.countLapses_lapseTimer, Part.assembledFrames_inLock, Part.assembledFrames_lapseTimer]

theorem Part.frameStart_holder (o : ClaimObject) :
    (s.frameStart cause).claims.holder o =
      if ∃ p, s.lapses p ∧ s.claims.holder o = some p then none else s.claims.holder o := by
  rw [Part.frameStart_eq_counted, Part.referenceShare_claims, Part.countLapses_holder]
  simp only [Part.assembledFrames_lapses, Part.assembledFrames_claims]

theorem Part.frameStart_list (q : Port) :
    (s.frameStart cause).list q =
      if s.lapses q ∨ (s.list q).due (s.exch.counter + 1) then .cleared else s.list q := by
  rw [Part.frameStart_eq_counted, Part.list, Part.referenceShare_lists]
  show s.assembledFrames.countLapses.list q = _
  rw [Part.countLapses_list, Part.assembledFrames_list]
  simp only [Part.assembledFrames_lapses]
  by_cases lapses : s.lapses q
  · rw [if_pos lapses, if_pos (.inl lapses)]
  · rw [if_neg lapses]
    exact if_congr ⟨.inr, fun h => h.resolve_left lapses⟩ rfl rfl

end

end Sys2Proof.Machine
end

section
/-! The bounds of the ports, their stores, their channels and their timers (R14, R28, R52, R53, R58, R88, R91, R92, R100,
R109, R111, R113, R115, R134, R168): each event keeps them, and so every step does. -/

namespace Sys2Proof.Machine

open Sys2Proof

/-! ### One port (R14, R28, R52, R58, R88, R100) -/

/-- The laws of a store whose port is in lock or not, with frames of this many slots. -/
structure Store.fits (st : Store) (inLock : Bool) (slots : Nat) : Prop where
  lawful : st.lawful inLock
  canRepeat : st.canRepeat
  frames : st.framesFit slots

theorem Store.fits_flushed (depth : PrimeDepth) (inLock : Bool) (slots : Nat) :
    (Store.flushed depth).fits inLock slots :=
  ⟨⟨Nat.zero_le _, fun _ => ⟨rfl, rfl, rfl⟩⟩, nofun, Store.flushed_framesFit depth slots⟩

/-- A store that holds and yields nothing fits at any slot count. -/
theorem Store.fits.out {st : Store} {slots : Nat} (h : st.fits false slots) (inLock : Bool) (slots' : Nat) :
    st.fits inLock slots' := by
  obtain ⟨empty, unprimed, unyielded⟩ := h.lawful.2 rfl
  refine ⟨⟨h.lawful.1, fun _ => ⟨empty, unprimed, unyielded⟩⟩, h.canRepeat, ?_, ?_⟩
  · rw [empty]
    nofun
  · rw [unyielded]
    nofun

theorem Store.fits.read {st : Store} {inLock : Bool} {slots : Nat} (h : st.fits inLock slots) :
    st.read.fits inLock slots := by
  refine ⟨?_, ?_, Store.read_framesFit h.frames⟩ <;> unfold Store.read <;> split
  · split
    case h_1 f rest queue =>
      have := h.lawful.1
      rw [queue, List.length_cons] at this
      exact ⟨by dsimp only; omega, fun out => by
        have := (h.lawful.2 out).1
        rw [queue] at this
        cases this⟩
    · exact h.lawful
  · exact h.lawful
  · split
    · exact fun _ _ => rfl
    · exact h.canRepeat
  · exact h.canRepeat

theorem Store.fits.write {st : Store} {slots : Nat} (h : st.fits true slots) {f : Frame} (hf : f.length = slots) :
    (st.write f).fits true slots := by
  have queue := st.write_queue f
  refine ⟨⟨?_, nofun⟩, fun _ empty => ?_, Store.write_framesFit h.frames hf⟩
  · have := h.lawful.1
    rw [queue, List.length_append, List.length_singleton]
    split
    · rw [List.length_tail]; omega
    · omega
  · rw [queue] at empty
    exact absurd empty (by simp)

/-- A read of a store of a port out of lock is no slip. -/
theorem Store.fits.readRepeats {st : Store} {slots : Nat} (h : st.fits false slots) : st.readRepeats = false := by
  simp [Store.readRepeats, (h.lawful.2 rfl).2.1]

/-- The bounds of a port unit with its stores and its lapse timer. -/
structure PortUnit.boundedWith (u : PortUnit) (inReset : Bool) (i o : Store) (timer : Nat) : Prop where
  lock : u.lock.lawful
  dark : inReset = true → u.lock = .dark
  inbound : i.fits u.lock.inLock u.profile.slots
  outbound : o.fits u.lock.inLock u.profile.slots
  timer : timer ≤ 2048
  counters : u.hasLocked = false → u.lock.inLock = false ∧ u.counters = ⟨0, 0, 0, 0, 0, 0, 0, 0, 0⟩

/-- Every port keeps its bounds. -/
def Part.unitsBounded (s : Part) : Prop :=
  ∀ p, (s.port p).boundedWith s.inReset (s.inStores.get p) (s.outStores.get p) (s.lapseTimer p)

theorem Part.bounded_iff (s : Part) : s.bounded ↔ s.unitsBounded ∧ s.queuesBounded := by
  constructor
  · rintro ⟨locks, stores, queues, timers, counters⟩
    refine ⟨fun p => ?_, queues⟩
    obtain ⟨⟨i1, i2, i3⟩, o1, o2, o3⟩ := stores p
    exact ⟨(locks p).1, (locks p).2, ⟨i1, i2, i3⟩, ⟨o1, o2, o3⟩, timers p, counters p⟩
  · rintro ⟨units, queues⟩
    exact ⟨fun p => ⟨(units p).lock, (units p).dark⟩,
      fun p => ⟨⟨(units p).inbound.lawful, (units p).inbound.canRepeat, (units p).inbound.frames⟩,
        (units p).outbound.lawful, (units p).outbound.canRepeat, (units p).outbound.frames⟩,
      queues, fun p => (units p).timer, fun p => (units p).counters⟩

section
variable {u v : PortUnit} {inReset : Bool} {i o : Store} {timer : Nat}

/-- A port that has locked keeps its bounds whatever its counters come to; so does any port whose counters stay. -/
theorem PortUnit.boundedWith.of_unit (h : u.boundedWith inReset i o timer) (lock : v.lock = u.lock)
    (slots : v.profile.slots = u.profile.slots) (locked : v.hasLocked = u.hasLocked)
    (counters : u.lock.inLock = true ∨ v.counters = u.counters) : v.boundedWith inReset i o timer where
  lock := lock ▸ h.lock
  dark := lock ▸ h.dark
  inbound := by rw [lock, slots]; exact h.inbound
  outbound := by rw [lock, slots]; exact h.outbound
  timer := h.timer
  counters never := by
    obtain ⟨out, zero⟩ := h.counters (locked ▸ never)
    rcases counters with hl | same
    · rw [out] at hl; cases hl
    · exact ⟨lock ▸ out, same.trans zero⟩

end

/-- One port unit, with its stores and timer, moves within its bounds. -/
theorem Part.unitsBounded_of_port {s t : Part} (p : Port) (resets : t.inReset = s.inReset)
    (others : ∀ q, q ≠ p → t.port q = s.port q ∧ t.inStores.get q = s.inStores.get q
      ∧ t.outStores.get q = s.outStores.get q ∧ t.lapseTimer q = s.lapseTimer q)
    (own : (t.port p).boundedWith s.inReset (t.inStores.get p) (t.outStores.get p) (t.lapseTimer p))
    (h : s.unitsBounded) : t.unitsBounded := by
  intro q
  rw [resets]
  by_cases hq : q = p
  · rw [hq]; exact own
  · obtain ⟨port, i, o, timer⟩ := others q hq
    rw [port, i, o, timer]
    exact h q

theorem Part.unitsBounded_of_same {s t : Part} (resets : t.inReset = s.inReset) (ports : t.ports = s.ports)
    (stores : t.inStores = s.inStores ∧ t.outStores = s.outStores) (timers : ∀ p, t.lapseTimer p = s.lapseTimer p)
    (h : s.unitsBounded) : t.unitsBounded := fun p => by
  rw [Part.port, resets, ports, stores.1, stores.2, timers]
  exact h p

theorem Part.modifyPort_unitsBounded {s : Part} {p : Port} {f : PortUnit → PortUnit} (h : s.unitsBounded)
    (own : (f (s.port p)).boundedWith s.inReset (s.inStores.get p) (s.outStores.get p) (s.lapseTimer p)) :
    (s.modifyPort p f).unitsBounded :=
  Part.unitsBounded_of_port (s := s) p rfl (fun q hq => ⟨s.modifyPort_port_ne f hq, rfl, rfl, rfl⟩)
    (by rw [Part.modifyPort_port_self]; exact own) h

/-- A count at a port in lock. -/
theorem Part.count_unitsBounded {s : Part} {p : Port} (f : Counters → Counters) (hl : s.inLock p = true)
    (h : s.unitsBounded) : (s.count p f).unitsBounded :=
  Part.modifyPort_unitsBounded h ((h p).of_unit rfl rfl rfl (.inl hl))

theorem Part.slip_unitsBounded {s : Part} {p : Port} (d : Direction) (k : SlipKind) (hl : s.inLock p = true)
    (h : s.unitsBounded) : (s.slip p d k).unitsBounded :=
  Part.count_unitsBounded (s := s) (fun c => c.addSlip d k) hl h

/-! ### Channels (R109, R111, R113, R115) -/

/-- Notices join within the bound of their queue, and move nothing else. -/
theorem ControlChannel.foldl_enqueue_bounded {c : ControlChannel} (ns : List Notice) (h : c.bounded) :
    (ns.foldl ControlChannel.enqueue c).bounded := by
  induction ns generalizing c with
  | nil => exact h
  | cons n ns ih =>
    refine ih ?_
    obtain ⟨intake, replies, notices, waiting⟩ := h
    have joined := c.enqueue_notices_le n notices
    rw [c.enqueue_eq n]
    exact ⟨intake, replies, joined, waiting⟩

theorem Part.queuesBounded_of_notified {s t : Part} (h : s.notified t) (hs : s.queuesBounded) : t.queuesBounded := by
  intro p
  obtain ⟨ns, chan, -⟩ := h p
  rw [chan]
  exact ControlChannel.foldl_enqueue_bounded ns (hs p)

/-- An event that moves the ports within their bounds, and the channels by notices. -/
theorem Part.bounded_of_notified {s t : Part} (units : t.unitsBounded) (notified : s.notified t) (h : s.bounded) :
    t.bounded :=
  t.bounded_iff.mpr ⟨units, Part.queuesBounded_of_notified notified (s.bounded_iff.mp h).2⟩

/-- The sizes of the queues of a channel. -/
def ControlChannel.sized (c : ControlChannel) : Prop :=
  c.intake.length ≤ 2 ∧ c.replies.length ≤ 4 ∧ c.notices.length ≤ 8

/-- The bounds of the part where a message of channel `p` may still wait to be taken. -/
def Part.boundedBut (s : Part) (p : Port) : Prop :=
  s.unitsBounded ∧ (s.chan p).sized ∧ ∀ q, q ≠ p → (s.chan q).bounded

theorem Part.boundedBut_of_bounded {s : Part} (p : Port) (h : s.bounded) : s.boundedBut p := by
  obtain ⟨units, queues⟩ := s.bounded_iff.mp h
  obtain ⟨intake, replies, notices, -⟩ := queues p
  exact ⟨units, ⟨intake, replies, notices⟩, fun q _ => queues q⟩

theorem Part.bounded_of_boundedBut {s : Part} {p : Port} (h : s.boundedBut p)
    (waiting : (s.chan p).intake ≠ [] → (s.chan p).replies.length = 4) : s.bounded := by
  obtain ⟨units, ⟨intake, replies, notices⟩, others⟩ := h
  refine s.bounded_iff.mpr ⟨units, fun q => ?_⟩
  by_cases hq : q = p
  · rw [hq]; exact ⟨intake, replies, notices, waiting⟩
  · exact others q hq

/-- One channel record moves within its sizes. -/
theorem Part.modifyChan_boundedBut {s : Part} {p : Port} {f : ControlChannel → ControlChannel} (h : s.boundedBut p)
    (own : (f (s.chan p)).sized) : (s.modifyChan p f).boundedBut p := by
  obtain ⟨units, -, others⟩ := h
  refine ⟨units, by rw [Part.modifyChan_chan_self]; exact own, fun q hq => ?_⟩
  rw [Part.modifyChan_chan_ne s f hq]
  exact others q hq

theorem ControlChannel.foldl_enqueue_sized {c : ControlChannel} (ns : List Notice) (h : c.sized) :
    (ns.foldl ControlChannel.enqueue c).sized := by
  induction ns generalizing c with
  | nil => exact h
  | cons n ns ih =>
    refine ih ?_
    obtain ⟨intake, replies, notices⟩ := h
    have joined := c.enqueue_notices_le n notices
    rw [c.enqueue_eq n]
    exact ⟨intake, replies, joined⟩

theorem Part.boundedBut_of_notified {s t : Part} {p : Port} (units : t.unitsBounded) (notified : s.notified t)
    (h : s.boundedBut p) : t.boundedBut p := by
  obtain ⟨-, own, others⟩ := h
  refine ⟨units, ?_, fun q hq => ?_⟩
  · obtain ⟨ns, chan, -⟩ := notified p
    rw [chan]
    exact ControlChannel.foldl_enqueue_sized ns own
  · obtain ⟨ns, chan, -⟩ := notified q
    rw [chan]
    exact ControlChannel.foldl_enqueue_bounded ns (others q hq)

/-! ### The exchange frame start (R7) -/

theorem countedTimer_le (locked : Bool) {n : Nat} (h : n ≤ 2048) : countedTimer locked n ≤ 2048 := by
  unfold countedTimer
  split <;> omega

/-- An assembled frame has a byte for every slot of its port (R14). -/
theorem Part.assembled_length (s : Part) (ys : Bank 4 (Option Frame)) (bs : Bank 8 Byte) (p : Port) :
    (s.assembled ys bs p).length = (s.port p).profile.slots := by
  have := (s.port p).profile.slots_le
  simp only [Part.assembled, List.length_map, List.length_take, List.length_finRange]
  omega

theorem Part.switched_profile (s : Part) (p : Port) : (s.switched.port p).profile = (s.port p).profile := by
  have port : s.switched.port p = s.advanceCounter.readStores.port p := by simp [Part.port, Part.switched]
  rw [port, Part.readStores_port]
  rfl

theorem Part.frameStart_unitsBounded {s : Part} (cause : StartCause) (h : s.unitsBounded) :
    (s.frameStart cause).unitsBounded := by
  intro p
  obtain ⟨lock, dark, inbound, outbound, timer, counters⟩ := h p
  have port := s.frameStart_port cause p
  have locks : ((s.frameStart cause).port p).lock = (s.port p).lock := by rw [port]
  have slots : ((s.frameStart cause).port p).profile = (s.port p).profile := by rw [port]
  have outStore := s.frameStart_outStores cause p
  refine ⟨by rw [locks]; exact lock, by rw [locks, Part.frameStart_inReset]; exact dark, ?_, ?_, ?_, fun never => ?_⟩
  · rw [locks, slots, Part.frameStart_inStores]
    exact inbound.read
  · rw [locks, slots, outStore]
    unfold Part.inLock
    cases hl : (s.port p).lock.inLock with
    | true =>
      rw [hl] at outbound
      refine outbound.write ?_
      rw [Part.assembled_length, Part.switched_profile]
    | false =>
      rw [hl] at outbound
      exact outbound
  · rw [Part.frameStart_lapseTimer]
    exact countedTimer_le _ timer
  · rw [port] at never
    obtain ⟨out, zero⟩ := counters never
    rw [out] at inbound
    refine ⟨by rw [locks]; exact out, ?_⟩
    rw [port]
    simp [inbound.readRepeats, Part.inLock, out, zero]

theorem Part.loseReference_unitsBounded {s : Part} (reason : RefReason) (h : s.unitsBounded) :
    (s.loseReference reason).unitsBounded := by
  unfold Part.loseReference
  dsimp only
  split
  · exact Part.frameStart_unitsBounded (s := (s.setRef s.ref.lost).raiseReference reason) _ h
  · exact h

theorem Part.clearCandidate_unitsBounded {s : Part} (reason : RefReason) (h : s.unitsBounded) :
    (s.clearCandidate reason).unitsBounded := by
  rw [Part.clearCandidate_eq]
  exact h

theorem Part.lockChanged_unitsBounded {s : Part} (p : Port) (before after : LockState) (h : s.unitsBounded) :
    (s.lockChanged p before after).unitsBounded := by
  unfold Part.lockChanged
  split
  · exact Part.clearCandidate_unitsBounded _ h
  split
  · exact Part.loseReference_unitsBounded _ h
  · exact h

theorem Part.setReferences_unitsBounded {s : Part} (list : List Port) (revertive : Bool) (h : s.unitsBounded) :
    (s.setReferences list revertive).unitsBounded := by
  have cleared : ∀ (r : RefUnit) reason, ((s.setRef r).clearCandidate reason).unitsBounded := fun r reason =>
    Part.clearCandidate_unitsBounded (s := s.setRef r) reason h
  have lost : ∀ (r : RefUnit) reason, ((s.setRef r).loseReference reason).unitsBounded := fun r reason =>
    Part.loseReference_unitsBounded (s := s.setRef r) reason h
  unfold Part.setReferences
  dsimp only
  split
  · split
    · exact lost _ _
    split
    · exact cleared _ _
    · exact h
  · split
    · exact cleared _ _
    · exact h
  · exact h
  · exact h

/-! ### Requests (R109 to R111) -/

theorem Part.Action.unitsBounded {s t : Part} {p : Port} (e : s.Action p t) (h : s.unitsBounded) :
    t.unitsBounded := by
  cases e with
  | claim os _ _ =>
    exact Part.unitsBounded_of_same (s := s) rfl rfl ⟨rfl, rfl⟩
      (fun q => by simp [Part.lapseTimer]) h
  | release os _ =>
    rw [Part.removeEdits_eq]
    exact Part.unitsBounded_of_same (s := s) rfl rfl ⟨rfl, rfl⟩ (fun q => by simp [Part.lapseTimer]) h
  | setReferences list revertive _ => exact Part.setReferences_unitsBounded list revertive h
  | setProfile n c fill depth => exact Part.modifyPort_unitsBounded h ((h p).of_unit rfl rfl rfl (.inr rfl))
  | restart => exact Part.modifyPort_unitsBounded h ((h p).of_unit rfl rfl rfl (.inr rfl))
  | play k n =>
    unfold Part.startPlay
    dsimp only
    split <;> exact h
  | _ => exact h

/-- A message is taken at channel `p`, with a place for its reply. -/
theorem Part.answerMessage_boundedBut {s : Part} {p : Port} (body : List Byte) (h : s.boundedBut p)
    (place : (s.chan p).replies.length < 4) : (s.answerMessage p body).boundedBut p := by
  have pushed : ∀ (t : Part) (r : Reply), t.boundedBut p → (t.chan p).replies.length < 4 →
      (t.pushReply p r).boundedBut p := fun t r ht free => by
    obtain ⟨-, ⟨intake, -, notices⟩, -⟩ := id ht
    refine Part.modifyChan_boundedBut ht ⟨intake, ?_, notices⟩
    simp only [List.length_append, List.length_singleton]
    omega
  unfold Part.answerMessage
  split
  case h_2 => exact h
  case h_1 kind tag fields =>
  split
  case h_2 => exact pushed s _ h place
  case h_1 k _ =>
    unfold Part.answerKnown
    dsimp only
    split
    case isFalse => exact pushed s _ h place
    case isTrue =>
      obtain ⟨-, -, -, replies, -⟩ := act_sameTraffic s k p p fields
      refine pushed _ _ ?_ (by rw [replies]; exact place)
      have units := (act_action k p fields s).unitsBounded h.1
      by_cases hk : k = .noticeMask
      · subst hk
        simp only [act, actNoticeMask]
        split
        · split
          · exact h
          · exact Part.modifyChan_boundedBut h h.2.1
        · exact h
      · exact Part.boundedBut_of_notified units (act_notified s k p fields hk) h

theorem Part.answerMessage_intake_self (s : Part) (p : Port) (body : List Byte) :
    ((s.answerMessage p body).chan p).intake = (s.chan p).intake := s.answerMessage_intake p p body

/-- Taking goes on until no message waits or the reply queue is full (R111). -/
theorem Part.takeWaiting_bounded {s : Part} {p : Port} (n : Nat) (h : s.boundedBut p)
    (enough : (s.chan p).intake.length ≤ n) : (s.takeWaiting p n).bounded := by
  induction n generalizing s with
  | zero =>
    exact Part.bounded_of_boundedBut h fun some => absurd (List.length_eq_zero_iff.mp (Nat.le_zero.mp enough)) some
  | succ n ih =>
    unfold Part.takeWaiting
    split
    case h_1 none => exact Part.bounded_of_boundedBut h fun some => absurd none some
    case h_2 body rest queue =>
      rw [queue, List.length_cons] at enough
      split
      case isTrue place =>
        obtain ⟨-, ⟨intake, replies, notices⟩, -⟩ := id h
        rw [queue, List.length_cons] at intake
        have left : (s.modifyChan p fun c => { c with intake := rest }).boundedBut p :=
          Part.modifyChan_boundedBut h ⟨by dsimp only; omega, replies, notices⟩
        refine ih (Part.answerMessage_boundedBut body left (by simpa using place)) ?_
        rw [Part.answerMessage_intake_self, Part.modifyChan_chan_self]
        exact Nat.le_of_succ_le_succ enough
      case isFalse full =>
        have := h.2.1.2.1
        exact Part.bounded_of_boundedBut h fun _ => by omega

theorem Part.messageComplete_bounded {s : Part} {p : Port} (body : List Byte) (hl : s.inLock p = true)
    (h : s.bounded) : (s.messageComplete p body).bounded := by
  have own := (s.boundedBut_of_bounded p h)
  obtain ⟨units, ⟨intake, replies, notices⟩, -⟩ := id own
  unfold Part.messageComplete
  split
  case isTrue room =>
    have joined : ((s.chan p).intake ++ [body]).length ≤ 2 := by
      simp only [List.length_append, List.length_singleton, intakeSize] at room ⊢
      omega
    refine Part.takeWaiting_bounded _ (Part.modifyChan_boundedBut own ⟨joined, replies, notices⟩) ?_
    rw [Part.modifyChan_chan_self]
    exact joined
  case isFalse =>
    have counted : (s.count p fun c => { c with intakeOverruns := c.intakeOverruns + 1 }).boundedBut p :=
      ⟨Part.count_unitsBounded _ hl units, own.2⟩
    refine Part.bounded_of_boundedBut (p := p) (Part.modifyChan_boundedBut counted ⟨intake, replies, notices⟩) ?_
    rw [Part.modifyChan_chan_self]
    exact ((s.bounded_iff.mp h).2 p).2.2.2

/-- A change of a channel record that leaves its queues alone. -/
theorem Part.modifyChan_bounded {s : Part} {p : Port} {f : ControlChannel → ControlChannel} (h : s.bounded)
    (own : (f (s.chan p)).bounded) : (s.modifyChan p f).bounded := by
  obtain ⟨units, queues⟩ := s.bounded_iff.mp h
  refine (Part.bounded_iff _).mpr ⟨units, fun q => ?_⟩
  rw [Part.modifyChan_chan]
  split
  · exact own
  · exact queues q

theorem Part.modifyPort_bounded {s : Part} {p : Port} {f : PortUnit → PortUnit} (h : s.bounded)
    (own : (f (s.port p)).boundedWith s.inReset (s.inStores.get p) (s.outStores.get p) (s.lapseTimer p)) :
    (s.modifyPort p f).bounded := by
  obtain ⟨units, queues⟩ := s.bounded_iff.mp h
  exact (Part.bounded_iff _).mpr ⟨Part.modifyPort_unitsBounded units own, queues⟩

/-- A port unit of which the lock state, the profile and the counters stay. -/
theorem Part.modifyPort_marks_bounded {s : Part} {p : Port} {f : PortUnit → PortUnit} (h : s.bounded)
    (lock : (f (s.port p)).lock = (s.port p).lock) (profile : (f (s.port p)).profile = (s.port p).profile)
    (locked : (f (s.port p)).hasLocked = (s.port p).hasLocked)
    (counters : (f (s.port p)).counters = (s.port p).counters) : (s.modifyPort p f).bounded :=
  Part.modifyPort_bounded h (((s.bounded_iff.mp h).1 p).of_unit lock (by rw [profile]) locked (.inr counters))

theorem Part.count_bounded {s : Part} {p : Port} (f : Counters → Counters) (hl : s.inLock p = true)
    (h : s.bounded) : (s.count p f).bounded :=
  Part.modifyPort_bounded h (((s.bounded_iff.mp h).1 p).of_unit rfl rfl rfl (.inl hl))

theorem Part.receive_bounded {s : Part} {p : Port} (b : Byte) (hl : s.inLock p = true) (h : s.bounded) :
    (s.receive p b).bounded := by
  have received : ∀ r, (s.setReceiver p r).bounded := fun r =>
    Part.modifyChan_bounded h ((s.bounded_iff.mp h).2 p)
  unfold Part.receive
  dsimp only
  split
  · split
    · exact received _
    · exact h
  · split
    · exact received _
    · exact Part.count_bounded _ hl (received _)
  · exact received _
  · split
    · exact Part.messageComplete_bounded _ hl (received _)
    · exact Part.count_bounded _ hl (received _)

/-! ### The sender and the outbound frame start (R57, R117) -/

theorem Part.place_bounded {s : Part} (p : Port) (h : s.bounded) : (s.place p).bounded := by
  obtain ⟨intake, replies, notices, waiting⟩ := (s.bounded_iff.mp h).2 p
  unfold Part.place
  dsimp only
  split
  case h_1 m _ =>
    have sent : (s.modifyChan p fun c => { c with sender := m.after }).bounded :=
      Part.modifyChan_bounded h ⟨intake, replies, notices, waiting⟩
    unfold Part.sendNext
    dsimp only
    split
    · exact Part.modifyPort_marks_bounded sent rfl rfl rfl rfl
    · exact sent
  case h_2 r rest _ queue =>
    rw [queue, List.length_cons] at replies
    have started := Part.modifyChan_boundedBut (f := fun c => { c with
        replies := rest, overrun := 0, sender := some ⟨framed (r.body c.overrun), 1, r.marked⟩ })
      (s.boundedBut_of_bounded p h) ⟨intake, by dsimp only; omega, notices⟩
    refine Part.takeWaiting_bounded _ started ?_
    rw [Part.modifyChan_chan_self]
    exact intake
  case h_3 n rest _ _ queue =>
    rw [queue, List.length_cons] at notices
    exact Part.modifyChan_bounded h ⟨intake, replies, by dsimp only; omega, waiting⟩
  case h_4 => exact h

theorem Part.readOutbound_bounded {s : Part} (p : Port) (h : s.bounded) : (s.readOutbound p).bounded := by
  refine Part.bounded_of_notified ?_ (s.readOutbound_notified p) h
  have units := (s.bounded_iff.mp h).1
  obtain ⟨lock, dark, inbound, outbound, timer, counters⟩ := units p
  have stored : ({ s with outStores := s.outStores.set p (s.outStores.get p).read } : Part).unitsBounded :=
    Part.unitsBounded_of_port (s := s) p rfl (fun q hq => ⟨rfl, rfl, Bank.get_set_ne _ _ hq, rfl⟩)
      (by
        refine ⟨lock, dark, inbound, ?_, timer, counters⟩
        dsimp only
        rw [Bank.get_set_self]
        exact outbound.read) units
  unfold Part.readOutbound
  dsimp only
  split
  case isTrue repeats =>
    refine Part.slip_unitsBounded .outbound .repeated ?_ stored
    by_contra unlocked
    have out : (s.port p).lock.inLock = false := Bool.eq_false_iff.mpr unlocked
    rw [out] at outbound
    rw [outbound.readRepeats] at repeats
    cases repeats
  case isFalse => exact stored

theorem Part.outboundStart_bounded {s : Part} (p : Port) (h : s.bounded) : (s.outboundStart p).bounded :=
  Part.place_bounded p (Part.modifyPort_marks_bounded (Part.readOutbound_bounded p h) rfl rfl rfl rfl)

theorem Part.setOwing_bounded {s : Part} (p : Port) (o : Owing) (h : s.bounded) : (s.setOwing p o).bounded :=
  Part.modifyPort_marks_bounded h rfl rfl rfl rfl

theorem Part.settleStart_bounded {s : Part} (p : Port) (h : s.bounded) : (s.settleStart p).bounded := by
  unfold Part.settleStart
  split
  · exact Part.outboundStart_bounded p (Part.setOwing_bounded p _ h)
  · exact h

theorem Part.startShare_bounded {s : Part} (p : Port) (pulse : Bool) (h : s.bounded) :
    (s.startShare p pulse).bounded := by
  unfold Part.startShare
  dsimp only
  split
  · exact Part.outboundStart_bounded p (Part.setOwing_bounded p _ h)
  · split
    · exact Part.outboundStart_bounded p (Part.setOwing_bounded p _ h)
    · exact h
  · exact h

/-! ### Entering and leaving lock (R90, R91, R93, R97) -/

/-- A port out of lock comes to another state out of lock. -/
theorem PortUnit.boundedWith.found {u v : PortUnit} {i o : Store} {timer : Nat}
    (h : u.boundedWith false i o timer) (out : u.lock.inLock = false) (lawful : v.lock.lawful)
    (out' : v.lock.inLock = false) (profile : v.profile = u.profile) (locked : v.hasLocked = u.hasLocked)
    (counters : v.counters = u.counters) : v.boundedWith false i o timer where
  lock := lawful
  dark := nofun
  inbound := by rw [out', profile, ← out]; exact h.inbound
  outbound := by rw [out', profile, ← out]; exact h.outbound
  timer := h.timer
  counters never := ⟨out', counters.trans (h.counters (locked ▸ never)).2⟩

theorem Part.modifyPort_found_bounded {s : Part} {p : Port} {f : PortUnit → PortUnit} (running : s.inReset = false)
    (h : s.bounded) (out : s.inLock p = false) (lawful : (f (s.port p)).lock.lawful)
    (out' : (f (s.port p)).lock.inLock = false) (profile : (f (s.port p)).profile = (s.port p).profile)
    (locked : (f (s.port p)).hasLocked = (s.port p).hasLocked)
    (counters : (f (s.port p)).counters = (s.port p).counters) : (s.modifyPort p f).bounded := by
  have own := (s.bounded_iff.mp h).1 p
  rw [running] at own
  exact Part.modifyPort_bounded h (running ▸ own.found out lawful out' profile locked counters)

theorem Part.raise_bounded {s : Part} (n : Notice) (h : s.bounded) : (s.raise n).bounded :=
  Part.bounded_of_notified (s := s) (s.bounded_iff.mp h).1 (s.notified_raise n) h

theorem Part.setLapseTimer_bounded {s : Part} (p : Port) {n : Nat} (hn : n ≤ 2048) (h : s.bounded) :
    (s.setLapseTimer p n).bounded := by
  obtain ⟨units, queues⟩ := s.bounded_iff.mp h
  refine (Part.bounded_iff _).mpr ⟨Part.unitsBounded_of_port (s := s) p rfl (fun q hq => ⟨rfl, rfl, rfl, ?_⟩) ?_ units,
    queues⟩
  · rw [Part.setLapseTimer_lapseTimer, if_neg hq]
  · obtain ⟨lock, dark, inbound, outbound, -, counters⟩ := units p
    exact ⟨lock, dark, inbound, outbound, by rw [Part.setLapseTimer_lapseTimer, if_pos rfl]; exact hn, counters⟩

theorem Part.enterLock_bounded {s : Part} {p : Port} (sent : Nat) (deferStart : Bool) (running : s.inReset = false)
    (out : s.inLock p = false) (h : s.bounded) : (s.enterLock p sent deferStart).bounded := by
  have own := (s.bounded_iff.mp h).1 p
  rw [Part.inLock] at out
  have entered : ∀ (f : PortUnit → PortUnit) (before : LockState), (f (s.port p)).lock = .locked →
      (f (s.port p)).hasLocked = true → (f (s.port p)).profile = (s.port p).profile →
      (((s.modifyPort p f).setLapseTimer p 0).raisePortState p before .frameFound).bounded := by
    intro f before lock locked profile
    refine Part.raise_bounded _ (Part.setLapseTimer_bounded p (Nat.zero_le _) (Part.modifyPort_bounded h ?_))
    refine ⟨by rw [lock]; decide, (fun hr => nomatch running.symm.trans hr), ?_, ?_, own.timer,
      (fun never => nomatch locked.symm.trans never)⟩
    · exact (show (s.inStores.get p).fits false _ from out ▸ own.inbound).out _ _
    · exact (show (s.outStores.get p).fits false _ from out ▸ own.outbound).out _ _
  unfold Part.enterLock
  dsimp only
  split
  · exact entered _ _ rfl rfl rfl
  · exact Part.outboundStart_bounded p (entered _ _ rfl rfl rfl)

theorem Part.pulse_bounded {s : Part} (p : Port) (place : PulsePlace) (deferStart : Bool)
    (running : s.inReset = false) (h : s.bounded) : (s.pulse p place deferStart).bounded := by
  have own := ((s.bounded_iff.mp h).1 p).lock
  unfold Part.pulse
  dsimp only
  split
  case h_1 => exact h
  case h_2 l =>
    exact Part.modifyPort_found_bounded running h (by simp [Part.inLock, l, LockState.inLock])
      (by decide : LockState.lawful (.confirm 0)) rfl rfl rfl rfl
  case h_3 good l =>
    have out : s.inLock p = false := by simp [Part.inLock, l, LockState.inLock]
    split
    · split
      · exact Part.enterLock_bounded _ _ running out h
      case isFalse first =>
        obtain rfl : good = 0 := by omega
        exact Part.modifyPort_found_bounded running h out (by decide : LockState.lawful (.confirm 1)) rfl rfl rfl rfl
    split
    · exact Part.modifyPort_found_bounded running h out (by decide : LockState.lawful (.confirm 0)) rfl rfl rfl rfl
    · exact h
  case h_4 | h_5 =>
    split
    · exact Part.modifyPort_marks_bounded h rfl rfl rfl rfl
    · exact h

/-- A pending action takes effect at a port out of lock, whose stores are empty. -/
theorem Part.actionEffect_unitsBounded {s : Part} {p : Port} (out : s.inLock p = false) (h : s.unitsBounded) :
    (s.actionEffect p).unitsBounded := by
  unfold Part.actionEffect
  split
  · exact h
  case h_2 n c _ =>
    have timers : ∀ q, (s.profileEffect p n c).lapseTimer q = s.lapseTimer q := fun q => by
      rw [Part.profileEffect_eq]
      rfl
    have stores : (s.profileEffect p n c).inStores = s.inStores ∧ (s.profileEffect p n c).outStores = s.outStores := by
      rw [Part.profileEffect_eq]
      exact ⟨rfl, rfl⟩
    refine Part.unitsBounded_of_port p (s.profileEffect_inReset p n c) (fun q hq => ?_) ?_ h
    · rw [stores.1, stores.2, timers, Part.profileEffect_port, if_neg hq]
      exact ⟨rfl, rfl, rfl, rfl⟩
    · rw [stores.1, stores.2, timers, Part.profileEffect_port, if_pos rfl]
      obtain ⟨lock, dark, inbound, outbound, timer, counters⟩ := h p
      rw [Part.inLock] at out
      exact ⟨lock, dark, (show (s.inStores.get p).fits false _ from out ▸ inbound).out _ _,
        (show (s.outStores.get p).fits false _ from out ▸ outbound).out _ _, timer, counters⟩
  · exact Part.modifyPort_unitsBounded h ((h p).of_unit rfl rfl rfl (.inr rfl))

/-- An effect of a pending action moves the channels by notices alone. -/
theorem Part.actionEffect_notified (s : Part) (p : Port) : s.notified (s.actionEffect p) := by
  unfold Part.actionEffect
  split
  · exact s.notified_refl
  case h_2 n c _ =>
    unfold Part.profileEffect
    dsimp only
    refine Part.notified_trans (fun q => ?_) ?_ (Part.foldl_notified _ (Part.settleEdits s.claims p n c)
      (fun v m q => ?_) (fun v m => v.removeEdits_notified m _ _) allPorts)
    · show (s.modifyPort p _).inLock q = _
      rw [Part.inLock, Part.modifyPort_port]
      split
      · subst q; rfl
      · rfl
    · exact Part.notified_of_eq rfl
    · rw [Part.inLock, Part.settleEdits, Part.removeEdits_port, Part.inLock]
  · exact Part.notified_of_eq rfl

theorem Part.leaveLock_bounded {s : Part} {p : Port} {dest : LockState} (dout : Dout) (cause : PortCause)
    (counted : Bool) (running : s.inReset = false) (hl : s.inLock p = true) (lawful : dest.lawful)
    (out : dest.inLock = false) (h : s.bounded) : (s.leaveLock p dest dout cause counted).bounded := by
  obtain ⟨units, queues⟩ := s.bounded_iff.mp h
  have locked : (s.port p).hasLocked = true := by
    by_contra never
    have out := ((units p).counters (by simpa using never)).1
    rw [Part.inLock, out] at hl
    cases hl
  have lock : ((s.dropLock p dest dout counted).port p).lock = dest := by
    rw [Part.dropLock_lock, if_pos rfl]
  have dropped : (s.dropLock p dest dout counted).bounded := by
    refine (Part.bounded_iff _).mpr ⟨Part.unitsBounded_of_port (s := s) p rfl (fun q hq => ?_) ?_ units, fun q => ?_⟩
    · exact ⟨s.modifyPort_port_ne _ hq, Bank.get_set_ne _ _ hq, Bank.get_set_ne _ _ hq, rfl⟩
    · refine ⟨by rw [lock]; exact lawful, (fun hr => nomatch running.symm.trans hr), ?_, ?_, (units p).timer, fun never => ?_⟩
      · simp only [Part.dropLock, Part.modifyChan_inStores, Part.flushStores, Bank.get_set_self]
        exact Store.fits_flushed _ _ _
      · simp only [Part.dropLock, Part.modifyChan_outStores, Part.flushStores, Bank.get_set_self]
        exact Store.fits_flushed _ _ _
      · have : ((s.dropLock p dest dout counted).port p).hasLocked = (s.port p).hasLocked := by
          show ((s.modifyPort p _).port p).hasLocked = _
          rw [Part.modifyPort_port_self]
          rfl
        rw [this, locked] at never
        cases never
    · unfold Part.dropLock
      rw [Part.modifyChan_chan]
      split
      · exact ⟨Nat.zero_le _, Nat.zero_le _, Nat.zero_le _, fun some => absurd rfl some⟩
      · exact queues q
  unfold Part.leaveLock
  dsimp only
  generalize s.dropLock p dest dout counted = v at lock dropped
  have out' : v.inLock p = false := by rw [Part.inLock, lock, out]
  have acted : (v.actionEffect p).bounded :=
    Part.bounded_of_notified (Part.actionEffect_unitsBounded out' (v.bounded_iff.mp dropped).1)
      (v.actionEffect_notified p) dropped
  have told := Part.raise_bounded (.portState p (s.port p).lock ((v.actionEffect p).port p).lock cause
    ((v.actionEffect p).port p).counters.lockLosses (v.actionEffect p).frameNumber) acted
  exact Part.bounded_of_notified (Part.lockChanged_unitsBounded _ _ _ ((Part.bounded_iff _).mp told).1)
    (Part.lockChanged_notified _ _ _ _) told

/-! ### Frame ends (R92, R94) -/

/-- A bad count that does not end the port's lock rises to 3 at most (R92). -/
theorem LockState.afterEnd_lawful {l : LockState} {good : Bool} (h : l.lawful) (stays : (!good && l.lastCoast) = false) :
    (l.afterEnd good).lawful ∧ (l.afterEnd good).inLock = true := by
  simp only [LockState.lawful, List.mem_cons, List.not_mem_nil, or_false] at h
  cases good with
  | true => exact ⟨(by decide : LockState.locked.lawful), rfl⟩
  | false =>
    rcases h with rfl | rfl | rfl | rfl | rfl | rfl | rfl | rfl
    case inr.inr.inr.inr.inr.inr.inr => cases stays
    all_goals exact ⟨by decide, rfl⟩

theorem Part.completeFrame_bounded {s : Part} {p : Port} {good : Bool} (rest : List Byte) (running : s.inReset = false)
    (hl : s.inLock p = true) (stays : (!good && (s.port p).lock.lastCoast) = false) (h : s.bounded) :
    (s.completeFrame p good rest).bounded := by
  have units := (s.bounded_iff.mp h).1
  obtain ⟨lawful, locked⟩ := LockState.afterEnd_lawful (units p).lock stays
  have never : (s.port p).hasLocked = true := by
    by_contra never
    have out := ((units p).counters (by simpa using never)).1
    rw [Part.inLock, out] at hl
    cases hl
  unfold Part.completeFrame
  dsimp only
  generalize (s.port p).lock.afterEnd good = after at lawful locked
  have moved : (s.modifyPort p fun u =>
      { u with lock := after, position := 0, misplaced := false, received := [] }).bounded := by
    obtain ⟨-, -, inbound, outbound, timer, -⟩ := units p
    refine Part.modifyPort_bounded h ⟨lawful, (fun hr => nomatch running.symm.trans hr), ?_, ?_, timer, fun n => ?_⟩
    · rw [locked, ← hl]; exact inbound
    · rw [locked, ← hl]; exact outbound
    · rw [show (s.port p).hasLocked = false from n] at never; cases never
  have unit : ((s.modifyPort p fun u =>
      { u with lock := after, position := 0, misplaced := false, received := [] }).port p) =
      { s.port p with lock := after, position := 0, misplaced := false, received := [] } :=
    s.modifyPort_port_self p _
  generalize (s.modifyPort p fun u =>
      { u with lock := after, position := 0, misplaced := false, received := [] }) = v at moved unit
  have timed : (v.lapseAtEnd p (s.port p).lock after).bounded
      ∧ (v.lapseAtEnd p (s.port p).lock after).port p = v.port p := by
    unfold Part.lapseAtEnd
    split
    · exact ⟨Part.setLapseTimer_bounded p (Nat.zero_le _) moved, rfl⟩
    · exact ⟨moved, rfl⟩
  obtain ⟨timed, same⟩ := timed
  generalize v.lapseAtEnd p (s.port p).lock after = w at timed same
  have told : (w.lockChanged p (s.port p).lock after).bounded :=
    Part.bounded_of_notified (Part.lockChanged_unitsBounded _ _ _ (w.bounded_iff.mp timed).1)
      (w.lockChanged_notified _ _ _) timed
  have own : ((w.lockChanged p (s.port p).lock after).port p).lock = after
      ∧ ((w.lockChanged p (s.port p).lock after).port p).profile = (s.port p).profile := by
    have lockW : (w.port p).lock = after := by rw [same, unit]
    have profileW : (w.port p).profile = (s.port p).profile := by rw [same, unit]
    unfold Part.lockChanged
    split
    · rw [Part.clearCandidate_port]
      exact ⟨lockW, profileW⟩
    · rw [if_neg fun lost => by simp [locked] at lost]
      exact ⟨lockW, profileW⟩
  generalize w.lockChanged p (s.port p).lock after = x at told own
  have unitsX := (x.bounded_iff.mp told).1
  have fitted : (fitBytes (s.port p).profile.slots x.freeCount ((s.port p).received ++ rest)).length =
      (x.port p).profile.slots := by rw [fitBytes_length, own.2]
  have inLockX : (x.port p).lock.inLock = true := by rw [own.1]; exact locked
  generalize fitBytes (s.port p).profile.slots x.freeCount ((s.port p).received ++ rest) = f at fitted
  let y : Part := { x with
    freeCount := freeAfter (s.port p).profile.slots x.freeCount ((s.port p).received ++ rest) }
  refine Part.bounded_of_notified (s := x) ?_ (y.writeInbound_notified p f) told
  have stored : ({ y with inStores := y.inStores.set p ((y.inStores.get p).write f) } : Part).unitsBounded := by
    refine Part.unitsBounded_of_port (s := x) p rfl (fun q hq => ⟨rfl, Bank.get_set_ne _ _ hq, rfl, rfl⟩) ?_ unitsX
    obtain ⟨lock, dark, inbound, outbound, timer, counters⟩ := unitsX p
    refine ⟨lock, dark, ?_, outbound, timer, counters⟩
    dsimp only
    rw [Bank.get_set_self]
    rw [inLockX] at inbound
    show ((x.inStores.get p).write f).fits (x.port p).lock.inLock _
    rw [inLockX]
    exact inbound.write fitted
  unfold Part.writeInbound
  dsimp only
  split
  · exact Part.slip_unitsBounded .inbound .dropped inLockX stored
  · exact stored

theorem Part.endFrame_bounded {s : Part} {p : Port} (pulse : Bool) (rest : List Byte) (running : s.inReset = false)
    (hl : s.inLock p = true) (h : s.bounded) : (s.endFrame p pulse rest).bounded := by
  have judged : (s.judged p ((s.port p).goodEnd pulse)).bounded := by
    unfold Part.judged
    split
    · exact h
    · exact Part.count_bounded _ hl h
  obtain ⟨records, locks⟩ := s.judged_sameStanding p ((s.port p).goodEnd pulse)
  have lock := locks p
  have running' := records.1.trans running
  have hl' : (s.judged p ((s.port p).goodEnd pulse)).inLock p = true := by rwa [Part.inLock, lock]
  unfold Part.endFrame
  dsimp only
  split
  · exact Part.leaveLock_bounded _ _ _ running' hl' (by decide) rfl judged
  case isFalse stays =>
    split
    · exact Part.leaveLock_bounded _ _ _ running' hl' (by decide) rfl judged
    · refine Part.completeFrame_bounded rest running' hl' ?_ judged
      rw [lock]
      simpa [PortUnit.fourthBad] using stays

theorem Part.completionShare_bounded {s : Part} {p : Port} (pulse : Bool) (rest : List Byte)
    (running : s.inReset = false) (hl : s.inLock p = true) (h : s.bounded) :
    (s.completionShare p pulse rest).bounded := by
  have quiet := s.quietLaw_lock.keeps_settleStart p ⟨fun _ => rfl, running⟩
  have ended := Part.endFrame_bounded pulse rest quiet.2 ((s.settleStart_inLock p p running).trans hl)
    (Part.settleStart_bounded p h)
  unfold Part.completionShare
  dsimp only
  split
  · exact Part.setOwing_bounded p _ ended
  · exact ended

/-! ### Every step -/

theorem Part.lapsesAhead_bounded {s : Part} (l : LapseFirst) (h : s.bounded) : (s.lapsesAhead l).bounded := by
  have one : ∀ (v : Part) (p : Port), v.bounded → (v.lapseAhead p).bounded := fun v p hv => by
    unfold Part.lapseAhead
    split
    · have timed := Part.setLapseTimer_bounded p (Nat.le_refl 2048) hv
      refine Part.bounded_of_notified ?_ (Part.lapsePort_notified _ p) timed
      refine Part.unitsBounded_of_same ?_ ?_ ⟨?_, ?_⟩ (fun q => Part.lapsePort_lapseTimer _ p q)
        ((Part.bounded_iff _).mp timed).1
      all_goals rw [Part.lapsePort_eq]
    · exact hv
  have all : ∀ (ps : List Port) (v : Part), v.bounded → (ps.foldl Part.lapseAhead v).bounded := by
    intro ps
    induction ps with
    | nil => exact fun v hv => hv
    | cons p ps ih => exact fun v hv => ih _ (one v p hv)
  exact all _ s h

theorem Part.frameStart_bounded {s : Part} (cause : StartCause) (h : s.bounded) : (s.frameStart cause).bounded :=
  Part.bounded_of_notified (Part.frameStart_unitsBounded cause (s.bounded_iff.mp h).1) (s.frameStart_notified cause) h

/-- An event that moves no port unit, store or timer, and the channels by notices alone. -/
theorem Part.bounded_of_blocks {s t : Part} (resets : t.inReset = s.inReset) (ports : t.ports = s.ports)
    (stores : t.inStores = s.inStores ∧ t.outStores = s.outStores) (claims : t.claims = s.claims)
    (notified : s.notified t) (h : s.bounded) : t.bounded :=
  Part.bounded_of_notified (Part.unitsBounded_of_same resets ports stores
    (fun p => by rw [Part.lapseTimer, claims, Part.lapseTimer]) (s.bounded_iff.mp h).1) notified h

/-- The end of a burst moves the channels by notices alone. -/
theorem Part.completeBurst_notified (s : Part) (bytes : List Byte) : s.notified (s.completeBurst bytes) := by
  have delivered : ∀ (v : Part) (b : Burst) (read : List Byte), v.notified (v.deliver b read) := by
    intro v b read
    unfold Part.deliver
    split
    case h_2 => exact Part.notified_of_eq rfl
    case h_1 n _ =>
      unfold Part.fetchCompleted
      dsimp only
      split
      · rw [Part.primes_eq]
        exact Part.notified_of_eq rfl
      · exact Part.foldl_notified (v.setFetches (v.play.fetches.filter fun f => f.pattern != n))
          (fun s k => s.haltWithNotice k .badPattern) (fun _ _ _ => rfl)
          (fun s k => s.haltWithNotice_notified k _) (v.play.waitersOf n)
  unfold Part.completeBurst
  split
  · exact s.notified_refl
  case h_2 b _ =>
    have moved := delivered { s with freeCount := freeAfter b.size s.freeCount bytes } b
      (fitBytes b.size s.freeCount bytes)
    have locks : ∀ p, (({ s with freeCount := freeAfter b.size s.freeCount bytes } : Part).deliver b
        (fitBytes b.size s.freeCount bytes)).inLock p = s.inLock p := fun p => by
      rw [Part.deliver_eq]
      rfl
    dsimp only
    split
    case h_2 => exact Part.notified_trans (s := s) locks moved (Part.notified_raise _ _)
    all_goals exact moved

theorem Part.returned_notified (s : Part) : s.notified s.returned := by
  have halted := Part.foldl_notified ((s.drivePins.setCache []).setFetches [])
    (fun d k => d.haltWithNotice k .memoryRetaken) (fun _ _ _ => rfl) (fun d k => d.haltWithNotice_notified k _)
    s.retakenChannels
  have locks : ∀ p, (s.retakenChannels.foldl (fun d k => d.haltWithNotice k .memoryRetaken)
      ((s.drivePins.setCache []).setFetches [])).inLock p = s.inLock p := fun p => by
    rw [Part.halts_eq]
    rfl
  unfold Part.returned
  dsimp only
  generalize s.retakenChannels.foldl (fun (d : Part) k => d.haltWithNotice k .memoryRetaken) _ = v at halted locks ⊢
  rw [Part.arbitrate_eq]
  exact Part.notified_trans (s := s) locks halted (Part.notified_raise _ _)

theorem Part.takeLoanReq_notified (s : Part) : s.notified s.takeLoanReq := by
  unfold Part.takeLoanReq
  split
  · exact Part.notified_of_eq rfl
  · split
    · exact Part.notified_raise (s.setMem { s.mem with state := .loaned, loanGnt := true }) _
    all_goals exact Part.notified_of_eq rfl

theorem Part.takeLoanRelease_notified (s : Part) : s.notified s.takeLoanRelease := by
  unfold Part.takeLoanRelease
  split
  · exact Part.notified_of_eq rfl
  · split
    case h_2 => exact s.returned_notified
    all_goals exact Part.notified_of_eq rfl

theorem Part.takeLoanReq_bounded {s : Part} (h : s.bounded) : s.takeLoanReq.bounded := by
  refine Part.bounded_of_blocks ?_ ?_ ⟨?_, ?_⟩ ?_ s.takeLoanReq_notified h <;> rw [Part.takeLoanReq_eq]

/-- Ports, stores, channels and timers at their reset values keep the bounds (R168). -/
theorem Part.bounded_of_reset {s : Part} (port : ∀ p, s.port p = .reset)
    (stores : ∀ p, s.inStores.get p = .reset ∧ s.outStores.get p = .reset) (chan : ∀ p, s.chan p = .reset)
    (timer : ∀ p, s.lapseTimer p = 0) : s.bounded := by
  refine (Part.bounded_iff _).mpr ⟨fun p => ?_, fun p => ?_⟩
  · rw [port, (stores p).1, (stores p).2, timer]
    exact ⟨by decide, fun _ => rfl, Store.fits_flushed _ _ _, Store.fits_flushed _ _ _, Nat.zero_le _,
      fun _ => ⟨rfl, rfl⟩⟩
  · rw [chan]
    exact ⟨Nat.zero_le _, Nat.zero_le _, Nat.zero_le _, fun some => absurd rfl some⟩

/-- Device reset takes every port, store, channel and timer to its reset value (R168). -/
theorem Part.held_bounded (s : Part) : s.held.bounded :=
  Part.bounded_of_reset (fun p => Bank.get_all p _) (fun p => ⟨Bank.get_all p _, Bank.get_all p _⟩)
    (fun p => Bank.get_all p _) fun p => Bank.get_all p _

/-- At the end of device reset every port is DARK and its stores are empty, whatever slot count is strapped (R169). -/
theorem Part.release_bounded {s : Part} (x : Straps) (inReset : s.inReset = true) (h : s.bounded) :
    (s.release x).bounded := by
  obtain ⟨units, queues⟩ := s.bounded_iff.mp h
  have sampled : ({ s.sampleStraps x with inReset := false } : Part).bounded := by
    refine (Part.bounded_iff _).mpr ⟨fun p => ?_, queues⟩
    obtain ⟨lock, dark, inbound, outbound, timer, counters⟩ := units p
    have out : (s.port p).lock.inLock = false := by rw [dark inReset]; rfl
    have port : ({ s.sampleStraps x with inReset := false } : Part).port p = { s.port p with
        profile := { (s.port p).profile with slotCount := strapSlotCount (strapHigh x p) } } := by
      simp only [Part.port, Part.sampleStraps, Bank.get_build]
    rw [port]
    exact ⟨lock, nofun, (show (s.inStores.get p).fits false _ from out ▸ inbound).out _ _,
      (show (s.outStores.get p).fits false _ from out ▸ outbound).out _ _, timer, counters⟩
  unfold Part.release
  dsimp only
  split
  · exact Part.takeLoanReq_bounded sampled
  · exact sampled

theorem Part.event_bounded {s t : Part} (e : s.Event t) (running : s.inReset = false) (h : s.bounded) : t.bounded := by
  have locked := (s.bounded_iff.mp h).1
  cases e with
  | nothing => exact h
  | frameStart cause _ => exact Part.frameStart_bounded cause h
  | lapse l cause => exact Part.frameStart_bounded cause (Part.lapsesAhead_bounded l h)
  | clockFound p dark =>
    exact Part.raise_bounded _ (Part.modifyPort_found_bounded running h
      (by simp [Part.inLock, dark, LockState.inLock]) (by decide : LockState.seek.lawful) rfl rfl rfl rfl)
  | clockLost p level before out =>
    exact Part.raise_bounded _ (Part.modifyPort_found_bounded running h out
      (by decide : LockState.dark.lawful) rfl rfl rfl rfl)
  | clockWatch p level hl => exact Part.leaveLock_bounded _ _ _ running hl (by decide) rfl h
  | pulse p place deferStart => exact Part.pulse_bounded p place deferStart running h
  | missingPulse p good l =>
    exact Part.modifyPort_found_bounded running h (by simp [Part.inLock, l, LockState.inLock])
      (by decide : LockState.seek.lawful) rfl rfl rfl rfl
  | wholeEnd p pulse rest hl =>
    exact Part.settleStart_bounded p (Part.completionShare_bounded pulse rest running hl h)
  | completionShare p pulse rest hl => exact Part.completionShare_bounded pulse rest running hl h
  | startShare p pulse _ => exact Part.startShare_bounded p pulse h
  | controlByte p earlier b hl =>
    refine Part.receive_bounded b ?_ (Part.modifyPort_marks_bounded h rfl rfl rfl rfl)
    rw [Part.inLock, Part.modifyPort_port_self]
    exact hl
  | message p body hl => exact Part.messageComplete_bounded body hl h
  | arbitrate =>
    refine Part.bounded_of_blocks ?_ ?_ ⟨?_, ?_⟩ ?_ (Part.notified_of_eq ?_) h <;> rw [Part.arbitrate_eq]
  | completeBurst bytes =>
    refine Part.bounded_of_blocks ?_ ?_ ⟨?_, ?_⟩ ?_ (s.completeBurst_notified bytes) h <;> rw [Part.completeBurst_eq]
  | loanReq => exact Part.takeLoanReq_bounded (s := s.setLoanReq true) h
  | loanRelease =>
    refine Part.bounded_of_blocks (s := s) ?_ ?_ ⟨?_, ?_⟩ ?_ (s.setLoanReq false).takeLoanRelease_notified h <;>
      rw [Part.takeLoanRelease_eq] <;> rfl
  | tick => exact h

/-- Settles O56: each event of the part keeps the bounds, and a step is one event. -/
theorem everyStepKeepsTheBounds : Obligations.EveryStepKeepsTheBounds := by
  intro s t h stepped
  rcases step_stepsTo stepped with ⟨inReset, same | ⟨x, released⟩ | ⟨level, set⟩⟩ | ⟨running, held | event⟩
  · rwa [same]
  · rw [released]; exact Part.release_bounded x inReset h
  · rw [set]; exact h
  · rw [held]; exact s.part.held_bounded
  · exact Part.event_bounded event running h

end Sys2Proof.Machine
end

section
/-! Steps, time and device reset (R70, R71, R76, R158, R163, R168 to R171): what a step runs, what the passing of
time does, what the beginning and the end of device reset leave, and the grant of the memory. -/

namespace Sys2Proof.Machine

open Sys2Proof

/-! ### Steps and time (R70, R71, R160) -/

/-- Settles O1: a step takes the front command, with the rest of the queue. -/
theorem stepRunsTheFrontCommand : Obligations.StepRunsTheFrontCommand := fun _ _ _ => rfl

/-- With no command waiting the part goes on of itself. -/
theorem step_of_idle {s : State} (h : s.pending = []) : step s = s.answer s.part.idle := by
  unfold step
  split
  · simp_all
  · rfl

/-- Settles O2: what the part does of itself, in the order of its three choices. -/
theorem idleStepLetsTimePass : Obligations.IdleStepLetsTimePass := by
  intro s idle
  rw [step_of_idle idle]
  refine ⟨fun inReset => ?held, fun running => ⟨fun stands => ?arbiter, fun quiet due => ?start,
    fun quiet early => ?tick⟩⟩
  case held => simp [Part.idle, Part.whenRunning, inReset, State.answer]
  case arbiter => simp [Part.idle, Part.whenRunning, running, stands, exec, execArbiterChoice]
  case start =>
    simp [Part.idle, Part.whenRunning, running, quiet, due, exec, execExchangeFrameStart]
  case tick => simp [Part.idle, Part.whenRunning, running, quiet, early, State.answer, Part.tick, Part.setRef]

/-- A port is in lock when it is LOCKED or in COAST (R97). -/
theorem LockState.inLock_iff (l : LockState) : l.inLock = true ↔ l = .locked ∨ ∃ n, l = .coast n := by
  cases l <;> simp [LockState.inLock]

/-- A frame start of a port is an exchange frame start while that port is tracked and in lock, except early in a
realignment (R70, R76). -/
theorem Part.startDue_frameStart_iff (s : Part) (q : Port) :
    s.startDue (.frameStart q) = true ↔ s.ref.mode = .tracking ∧ s.ref.tracked = some q ∧ s.inLock q = true
      ∧ (s.ref.realigning = true → 1024 ≤ s.ref.timer) := by
  cases h : s.ref.realigning
  · simp [Part.startDue, h, and_assoc]
  · simp [Part.startDue, h, and_assoc]
    exact fun _ _ _ => Iff.rfl

/-- Settles O3: the start that is due, mode by mode. -/
theorem modeDecidesWhatEndsTheFrame : Obligations.ModeDecidesWhatEndsTheFrame := by
  intro s
  refine ⟨fun m => ?free, fun m unheld => ?unheld, fun n m held => ?held, fun m => ?tracking, fun q m => ?other,
    fun q m => ?tracked⟩
  case free => simp [Part.startDue, m, RefUnit.periodInUse, nominalPeriod]
  case unheld => simp [Part.startDue, m, RefUnit.periodInUse, nominalPeriod, unheld]
  case held => rcases m with m | m <;> simp [Part.startDue, m, RefUnit.periodInUse, held]
  case tracking => simp [Part.startDue, m]
  case other => simp [Part.startDue, m]
  case tracked => rw [s.startDue_frameStart_iff, and_iff_right m, Part.inLock, LockState.inLock_iff]

/-! ### Device reset (R168, R169, R171) -/

/-- Settles O4: every block of the held part, record by record. -/
theorem resetBeginResetsEveryBlock : Obligations.ResetBeginResetsEveryBlock := by
  intro s running
  have began : exec .resetBegin s = .next { s with part := s.part.held } := by
    simp [exec, execResetBegin, running, State.answer]
  have port : ∀ p, s.part.held.port p = .reset := fun p => Bank.get_all p _
  have chan : ∀ p, s.part.held.chan p = .reset := fun p => Bank.get_all p _
  have list : ∀ p, s.part.held.list p = .reset := fun p => Bank.get_all p _
  have channel : ∀ k, s.part.held.channel k = .reset := fun k => Bank.get_all k _
  have entry : ∀ p i, s.part.held.entry p i = ⟨.idle, 0⟩ := fun p i => by
    simp [Part.entry, Part.held, Part.reset, Exchange.reset]
  have holder : ∀ o, s.part.held.claims.holder o = none := fun o => by
    cases o <;> simp [ClaimUnit.holder, Part.held, Part.reset, ClaimUnit.reset]
  refine ⟨_, began, rfl, rfl, fun p => ?_, fun p => ⟨Bank.get_all p _, Bank.get_all p _⟩,
    ⟨rfl, rfl, rfl, rfl, rfl, rfl, rfl⟩, entry, rfl, rfl, holder, fun p => Bank.get_all p _, list, fun p => ?_,
    channel, rfl, rfl, rfl, rfl, rfl, rfl, rfl, rfl, rfl, rfl⟩
  · rw [port]
    exact ⟨rfl, rfl, rfl, rfl, rfl, rfl, rfl, rfl, rfl, rfl⟩
  · rw [chan]
    exact ⟨rfl, rfl, rfl, rfl, rfl, rfl, rfl, rfl, rfl, rfl⟩

/-- A grant to a part with no port in lock reaches nobody. -/
theorem Part.raise_unlocked {s : Part} (n : Notice) (out : ∀ p, s.inLock p = false) : s.raise n = s := by
  have none : ∀ p, s.admits n p = false := fun p => by simp [Part.admits, out p]
  have chans : (Bank.build fun p => if s.admits n p then (s.chan p).enqueue n else s.chan p) = s.chans :=
    Bank.ext_get fun p => by simp [none p, Part.chan]
  rw [Part.raise, chans]

/-- A high LOAN_REQ at the end of device reset: with no memory LOAN_GNT alone, else the loan (R158, R163). -/
theorem Part.takeLoanReq_idle {s : Part} (out : ∀ p, s.inLock p = false) (idle : s.mem.state = .idle) :
    s.takeLoanReq = s.setMem { s.mem with
      loanGnt := true, state := if s.mem.size ≠ .none then .loaned else .idle } := by
  unfold Part.takeLoanReq
  split
  case isTrue none => simp [none, ← idle]
  case isFalse some =>
    rw [idle]
    exact Part.raise_unlocked _ out

/-- The candidate list that the straps give (R169). -/
theorem strapRefPort_val (x : Straps) :
    (strapRefPort x).val = (if x.rs1 then 2 else 0) + (if x.rs0 then 1 else 0) := by
  unfold strapRefPort
  split <;> simp_all

theorem strapMemSize_eq (x : Straps) :
    strapMemSize x =
      if x.ms1 then (if x.ms0 then .mib16 else .mib4) else (if x.ms0 then .mib1 else .none) := by
  unfold strapMemSize
  split <;> simp_all

/-- The port unit of port `p` after the straps are sampled. -/
theorem Part.sampleStraps_port (s : Part) (x : Straps) (p : Port) :
    (s.sampleStraps x).port p = { s.port p with
      profile := { (s.port p).profile with slotCount := strapSlotCount (strapHigh x p) } } := by
  simp only [Part.port, Part.sampleStraps, Bank.get_build]

/-- The part after device reset, with a high LOAN_REQ taken (R169, R171). -/
theorem Part.release_dark {s : Part} (x : Straps) (dark : ∀ p, (s.port p).lock = .dark)
    (idle : s.mem.state = .idle) (low : s.mem.loanGnt = false) :
    s.release x = { s with
      inReset := false, ports := (s.sampleStraps x).ports
      ref := { s.ref with list := strapRefList x, timer := 0 }
      mem := { s.mem with
        size := strapMemSize x, loanGnt := s.mem.loanReq
        state := if s.mem.loanReq = true ∧ strapMemSize x ≠ .none then .loaned else .idle } } := by
  have out : ∀ p, ({ s.sampleStraps x with inReset := false } : Part).inLock p = false := fun p => by
    have sampled : ({ s.sampleStraps x with inReset := false } : Part).port p = (s.sampleStraps x).port p := rfl
    rw [Part.inLock, sampled, s.sampleStraps_port x p, dark]
    rfl
  unfold Part.release
  dsimp only
  by_cases request : s.mem.loanReq = true
  · rw [if_pos (show (s.sampleStraps x).mem.loanReq = true from request), Part.takeLoanReq_idle out idle]
    simp only [Part.setMem, Part.sampleStraps, request, true_and]
  · rw [if_neg (show ¬ (s.sampleStraps x).mem.loanReq = true from request)]
    simp only [Part.sampleStraps, Bool.eq_false_iff.mpr request, Bool.false_eq_true, false_and, if_false, idle, low]

/-- Settles O5: the part after device reset, field by field. -/
theorem resetEndSamplesTheStraps : Obligations.ResetEndSamplesTheStraps := by
  intro x s inReset dark idle low
  have released : exec (.resetEnd x) s = .next { s with part := s.part.release x } := by
    simp [exec, execResetEnd, inReset, State.answer]
  have eq := Part.release_dark x dark idle low
  have port : ∀ p, (s.part.release x).port p = { s.part.port p with
      profile := { (s.part.port p).profile with slotCount := strapSlotCount (strapHigh x p) } } := fun p => by
    rw [eq]
    exact s.part.sampleStraps_port x p
  have size : (s.part.release x).mem.size = strapMemSize x := by rw [eq]
  have list : (s.part.release x).ref.list = strapRefList x := by rw [eq]
  refine ⟨_, released, rfl, ?_⟩
  dsimp only
  refine ⟨by rw [eq], by rw [eq], fun rs2 => ?_, fun rs2 => ⟨strapRefPort x, ?_, strapRefPort_val x⟩,
    fun p => by rw [port], by rw [port]; rfl, by rw [port]; rfl, by rw [port]; rfl, by rw [port]; rfl,
    size.trans (strapMemSize_eq x), by rw [size, eq], by rw [eq]⟩
  · simp [list, strapRefList, rs2]
  · simp [list, strapRefList, rs2]

/-- Settles O6: in device reset every command but its end leaves the part, or moves the level of LOAN_REQ. -/
theorem nothingIsTakenInReset : Obligations.NothingIsTakenInReset := by
  intro c s inReset unending
  have held : ∀ f : Part → Part, s.part.whenRunning f = s.part := fun f => by
    simp [Part.whenRunning, inReset]
  refine ⟨fun notAsserted notReleased => ?other, ?asserted, ?released⟩
  case other =>
    cases c
    case resetBegin => simp [exec, execResetBegin, inReset, State.answer]
    case resetEnd x => exact absurd rfl (unending x)
    case loanReqAssertion => exact absurd rfl notAsserted
    case loanReqRelease => exact absurd rfl notReleased
    all_goals exact congrArg (fun part => Host.Outcome.next { s with part := part }) (held _)
  case asserted =>
    rintro rfl
    by_cases level : s.part.mem.loanReq = true
    · simp only [exec, execLoanReqAssertion, State.answer, if_pos level]
      rw [← level]
    · simp only [exec, execLoanReqAssertion, State.answer, if_neg level]
      rw [Part.whenRunning, if_pos (show (s.part.setLoanReq true).inReset = true from inReset)]
      rfl
  case released =>
    rintro rfl
    by_cases level : s.part.mem.loanReq = true
    · simp only [exec, execLoanReqRelease, State.answer, if_pos level]
      rw [Part.whenRunning, if_pos (show (s.part.setLoanReq false).inReset = true from inReset)]
      rfl
    · simp only [exec, execLoanReqRelease, State.answer, if_neg level]
      rw [← Bool.eq_false_iff.mpr level]

/-- Settles O60: the records after reset, each as its laws want it. -/
theorem theResetStateIsLawful : Obligations.TheResetStateIsLawful := by
  refine ⟨?bounds, ?reference, ?routes, ?prefetch⟩
  case bounds =>
    exact Part.bounded_of_reset (fun p => Bank.get_all p _) (fun p => ⟨Bank.get_all p _, Bank.get_all p _⟩)
      (fun p => Bank.get_all p _) fun p => Bank.get_all p _
  case reference =>
    have record : RefUnit.reset.lawful ∧ RefUnit.reset.countLawful := by decide
    exact ⟨record.1, nofun, record.2, List.nodup_nil, nofun, nofun, nofun⟩
  case routes =>
    exact Part.routesLawful_of_empty
      (fun p i => by simp [Part.entry, State.reset, Part.reset, Exchange.reset])
      (fun p i => by simp [ClaimUnit.holder, State.reset, Part.reset, ClaimUnit.reset])
      fun m => Bank.get_all m _
  case prefetch => exact (Part.prefetchLawful_iff _).mpr (PlaybackUnit.reset_lawfulAt rfl rfl)

/-! ### The grant of the memory (R158, R163) -/

/-- An assertion of LOAN_REQ at a part that runs. -/
theorem exec_loanReqAssertion {s : State} (running : s.part.inReset = false) (low : s.part.mem.loanReq = false) :
    exec .loanReqAssertion s = .next { s with part := (s.part.setLoanReq true).takeLoanReq } := by
  simp [exec, execLoanReqAssertion, State.answer, low, Part.whenRunning, running]

/-- Settles O54: an assertion, by the memory and the state of its port. -/
theorem loanRequestsAreGranted : Obligations.LoanRequestsAreGranted := by
  intro s running
  refine ⟨fun high => ?high, fun low none => ?_, fun low some idle => ?_, fun low some reading => ?_⟩
  case high => simp [exec, execLoanReqAssertion, State.answer, high]
  all_goals rw [exec_loanReqAssertion running low, Part.takeLoanReq]
  · rw [if_pos (show (s.part.setLoanReq true).mem.size = .none from none)]
    rfl
  · rw [if_neg (show ¬ (s.part.setLoanReq true).mem.size = .none from some),
      show (s.part.setLoanReq true).mem.state = .idle from idle]
    rfl
  · rw [if_neg (show ¬ (s.part.setLoanReq true).mem.size = .none from some),
      show (s.part.setLoanReq true).mem.state = .reading from reading]
    rfl

end Sys2Proof.Machine
end

section
/-! Chapter 1, the exchange frame start (R5 to R15, R28 to R31, R43 to R45, R58 to R61, R152 to R155): its shares in
their order, which notice each share raises, and what the whole start leaves of each block. -/

namespace Sys2Proof.Machine

open Sys2Proof

/-! ### Updates that keep who is in lock, and move the channels by notices alone -/

/-- From `s` to `t` no port enters or leaves lock, and the channels move by notices alone. -/
def Part.calm (s t : Part) : Prop := (∀ p, t.inLock p = s.inLock p) ∧ s.notified t

theorem Part.calm.trans {s t u : Part} (h : s.calm t) (g : t.calm u) : s.calm u :=
  ⟨fun p => (g.1 p).trans (h.1 p), Part.notified_trans h.1 h.2 g.2⟩

theorem Part.calm_refl (s : Part) : s.calm s := ⟨fun _ => rfl, s.notified_refl⟩

/-- Blocks other than the ports and the channels. -/
theorem Part.calm_of_eq {s t : Part} (ports : t.ports = s.ports) (chans : t.chans = s.chans) : s.calm t :=
  ⟨fun p => by rw [Part.inLock, Part.inLock, Part.port, Part.port, ports], Part.notified_of_eq chans⟩

theorem Part.calm_raise (s : Part) (n : Notice) : s.calm (s.raise n) := ⟨fun _ => rfl, s.notified_raise n⟩

theorem Part.calm_foldl {ι : Type} (f : Part → ι → Part) (calm : ∀ (s : Part) i, s.calm (f s i)) (l : List ι) (s : Part) :
    s.calm (l.foldl f s) := by
  induction l generalizing s with
  | nil => exact s.calm_refl
  | cons i l ih => exact (calm s i).trans (ih _)

/-- A notice that reached its port in between has reached it. -/
theorem Part.reached_between {s v w t : Part} {p : Port} {n : Notice} (before : s.calm v) (r : v.reached w p n)
    (after : w.calm t) : s.reached t p n := by
  obtain ⟨first, e₁, -⟩ := before.2 p
  obtain ⟨ns, e₂, hn⟩ := r
  obtain ⟨last, e₃, -⟩ := after.2 p
  exact ⟨first ++ ns ++ last, by rw [e₃, e₂, e₁, List.foldl_append, List.foldl_append], by simp [hn]⟩

theorem Part.reached_raise {s : Part} {p : Port} {n : Notice} (h : s.admits n p = true) : s.reached (s.raise n) p n :=
  Part.reached_of_raise s.notified_refl h (Part.notified_refl _)

/-- A notice raised in one round of a fold of calm rounds, stated of the part that the rounds before the first such
round leave. -/
theorem Part.reached_foldl {ι : Type} [DecidableEq ι] (f : Part → ι → Part) (calm : ∀ (s : Part) i, s.calm (f s i)) {l : List ι}
    {i : ι} (hi : i ∈ l) {s : Part} {p : Port} {n : Notice}
    (round : ∀ as : List ι, i ∉ as → (as.foldl f s).reached (f (as.foldl f s) i) p n) :
    s.reached (l.foldl f s) p n := by
  obtain ⟨as, bs, rfl, first⟩ := List.eq_append_cons_of_mem hi
  rw [List.foldl_append, List.foldl_cons]
  exact Part.reached_between (Part.calm_foldl f calm as s) (round as first) (Part.calm_foldl f calm bs _)

/-- What no round of a fold touches. -/
theorem foldl_untouched {σ ι α : Type} (f : σ → ι → σ) (g : σ → α) (l : List ι) (h : ∀ s, ∀ i ∈ l, g (f s i) = g s)
    (s : σ) : g (l.foldl f s) = g s := by
  induction l generalizing s with
  | nil => rfl
  | cons i l ih =>
    rw [List.foldl_cons, ih (fun s j hj => h s j (List.mem_cons_of_mem _ hj)), h s i List.mem_cons_self]

section
variable (s : Part)

/-- Notices leave the mask of a channel as it is. -/
theorem Part.calm.mask {s t : Part} (h : s.calm t) (p : Port) : (t.chan p).mask = (s.chan p).mask :=
  Part.mask_of_notified h.2 p

/-! ### The shares of the start, in their order (R7) -/

theorem Part.readInbound_calm (p : Port) : s.calm (s.readInbound p) :=
  ⟨fun q => s.readInbound_inLock p q, s.readInbound_notified p⟩

theorem Part.takeByte_calm (k : Channel) : s.calm (s.takeByte k) :=
  ⟨fun q => s.takeByte_inLock k q, s.takeByte_notified k⟩

theorem Part.writeOutbound_calm (p : Port) (f : Frame) : s.calm (s.writeOutbound p f) :=
  ⟨fun q => s.writeOutbound_inLock p q f, s.writeOutbound_notified p f⟩

theorem Part.countLapse_calm (p : Port) : s.calm (s.countLapse p) :=
  ⟨fun q => s.countLapse_inLock p q, s.countLapse_notified p⟩

theorem Part.lapseAhead_calm (p : Port) : s.calm (s.lapseAhead p) :=
  ⟨fun q => s.lapseAhead_inLock p q, s.lapseAhead_notified p⟩

theorem Part.advanceCounter_calm : s.calm s.advanceCounter := Part.calm_of_eq rfl rfl

theorem Part.readStores_calm : s.calm s.readStores := Part.calm_foldl _ Part.readInbound_calm _ _

theorem Part.takeBytes_calm : s.calm s.takeBytes := Part.calm_foldl _ Part.takeByte_calm _ _

theorem Part.switchover_calm : s.calm s.switchover :=
  ⟨fun p => by rw [Part.inLock, Part.port, Part.switchover_ports]; rfl, s.switchover_notified⟩

theorem Part.writeFrames_calm (ys : Bank 4 (Option Frame)) (bs : Bank 8 Byte) : s.calm (s.writeFrames ys bs) :=
  ⟨fun q => s.writeFrames_inLock ys bs q, s.writeFrames_notified ys bs⟩

theorem Part.countLapses_calm : s.calm s.countLapses := Part.calm_foldl _ Part.countLapse_calm _ _

theorem Part.referenceShare_calm (cause : StartCause) : s.calm (s.referenceShare cause) :=
  ⟨fun p => by rw [Part.inLock, Part.port, Part.referenceShare_ports]; rfl, s.referenceShare_notified cause⟩

variable (cause : StartCause)

theorem Part.frameStart_calm : s.calm (s.frameStart cause) :=
  ⟨fun p => s.frameStart_inLock cause p, s.frameStart_notified cause⟩

/-- The part when the inbound stores of a start are read. -/
theorem Part.readStores_to_frameStart : s.advanceCounter.readStores.calm (s.frameStart cause) :=
  ((((Part.takeBytes_calm _).trans (Part.switchover_calm _)).trans
    (Part.writeFrames_calm _ s.yields s.playbackBytes)).trans (Part.countLapses_calm _)).trans
      (Part.referenceShare_calm _ cause)

theorem Part.takeBytes_to_frameStart : s.advanceCounter.readStores.takeBytes.calm (s.frameStart cause) :=
  (((Part.switchover_calm _).trans
    (Part.writeFrames_calm _ s.yields s.playbackBytes)).trans (Part.countLapses_calm _)).trans
      (Part.referenceShare_calm _ cause)

theorem Part.switched_to_frameStart : s.switched.calm (s.frameStart cause) :=
  ((Part.writeFrames_calm _ s.yields s.playbackBytes).trans (Part.countLapses_calm _)).trans
      (Part.referenceShare_calm _ cause)

theorem Part.assembledFrames_to_frameStart : s.assembledFrames.calm (s.frameStart cause) :=
  (Part.countLapses_calm _).trans (Part.referenceShare_calm _ cause)

theorem Part.calm_readStores : s.calm s.advanceCounter.readStores :=
  s.advanceCounter_calm.trans (Part.readStores_calm _)

theorem Part.calm_takeBytes : s.calm s.advanceCounter.readStores.takeBytes :=
  s.calm_readStores.trans (Part.takeBytes_calm _)

theorem Part.calm_switched : s.calm s.switched := s.calm_takeBytes.trans (Part.switchover_calm _)

theorem Part.calm_assembledFrames : s.calm s.assembledFrames :=
  s.calm_switched.trans (Part.writeFrames_calm _ _ _)

/-- A start that is due is taken while the part runs (R70). -/
theorem exec_exchangeFrameStart_taken {s : State} {cause : StartCause} (running : s.part.inReset = false)
    (due : s.part.startDue cause = true) :
    exec (.exchangeFrameStart cause) s = .next { s with part := s.part.frameStart cause } := by
  rw [exec_exchangeFrameStart_due running due, Part.frameStart_eq_select]

theorem exec_exchangeFrameStart_early {s : State} {cause : StartCause}
    (early : s.part.startDue cause = false) : exec (.exchangeFrameStart cause) s = .next s := by
  simp [exec, execExchangeFrameStart, State.answer, Part.whenRunning, early]

/-! ### What a start does not own (R6, R71) -/

/-- Selection leaves the timing of the record, its list and its flag alone. -/
theorem Part.select_timing : s.select.ref.timer = s.ref.timer ∧ s.select.ref.lastStart = s.ref.lastStart
    ∧ s.select.ref.list = s.ref.list ∧ s.select.ref.revertive = s.ref.revertive ∧ s.select.ref.held = s.ref.held := by
  unfold Part.select
  split
  · split
    · split <;> exact ⟨rfl, rfl, rfl, rfl, rfl⟩
    all_goals exact ⟨rfl, rfl, rfl, rfl, rfl⟩
  · split
    · split <;> exact ⟨rfl, rfl, rfl, rfl, rfl⟩
    · unfold Part.choose
      split <;> exact ⟨rfl, rfl, rfl, rfl, rfl⟩

theorem Part.frameStart_timing : (s.frameStart cause).ref.timer = 0 ∧ (s.frameStart cause).ref.lastStart = cause
    ∧ (s.frameStart cause).ref.list = s.ref.list ∧ (s.frameStart cause).ref.revertive = s.ref.revertive
    ∧ (s.frameStart cause).ref.held = s.ref.heldAfter cause := by
  rw [Part.frameStart_eq_select]
  exact Part.select_timing _

theorem Exchange.apply_counter (x : Exchange) (edits : List Edit) : (x.apply edits).counter = x.counter := by
  unfold Exchange.apply
  split <;> rfl

theorem Part.frameStart_counter : (s.frameStart cause).exch.counter = s.exch.counter + 1 := by
  rw [Part.frameStart_exch, Exchange.apply_counter]
  rfl

theorem Part.frameStart_onlyCountersMoved : s.onlyCountersMoved (s.frameStart cause) := fun p => by
  rw [Part.frameStart_port]

/-- Settles O7: the start's own share of the record, and the blocks it leaves alone. -/
theorem frameStartAdvancesTheCounter : Obligations.FrameStartAdvancesTheCounter := by
  intro cause s running
  refine ⟨exec_exchangeFrameStart_early, fun due => ⟨_, exec_exchangeFrameStart_taken running due, rfl, ?_⟩⟩
  dsimp only
  obtain ⟨timer, last, list, revertive, -⟩ := s.part.frameStart_timing cause
  exact ⟨s.part.frameStart_counter cause, timer, last, list, revertive,
    (s.part.frameStart_inReset cause).trans running, s.part.frameStart_mem cause, s.part.frameStart_freeCount cause,
    s.part.frameStart_cache cause, s.part.frameStart_fetches cause, s.part.frameStart_onlyCountersMoved cause,
    Part.onlyNoticesJoined_of_notified (s.part.frameStart_notified cause)⟩

/-! ### The due lists (R43 to R45) -/

/-- A list is due when it waits for the next start or for this frame (R43). -/
theorem StagingList.due_iff (l : StagingList) (f : Half) :
    l.due f = true ↔ l.target = some .next ∨ l.target = some (.frame f) := by
  unfold StagingList.due
  split
  case h_3 n h => simp [h]
  all_goals simp [*]

theorem Part.mem_dueEdits_iff {e : Edit} :
    e ∈ s.advanceCounter.dueEdits ↔ ∃ m, s.listDue m (s.exch.counter + 1) ∧ e ∈ (s.list m).edits := by
  simp only [Part.dueEdits, Part.duePorts, List.mem_flatMap, List.mem_filter, mem_allPorts, true_and,
    StagingList.due_iff]
  exact Iff.rfl

theorem Part.dueEdits_eq_nil_iff :
    s.advanceCounter.dueEdits = [] ↔ ∀ m, s.listDue m (s.exch.counter + 1) → (s.list m).edits = [] := by
  simp only [List.eq_nil_iff_forall_not_mem, Part.mem_dueEdits_iff]
  exact ⟨fun h m due e he => h e ⟨m, due, he⟩, fun h e ⟨m, due, he⟩ => h m due e he⟩

theorem Exchange.apply_nil (x : Exchange) : x.apply [] = x := rfl

theorem Exchange.apply_generation (x : Exchange) {edits : List Edit} (h : edits ≠ []) :
    (x.apply edits).generation = x.generation + 1 := by
  rw [Exchange.apply, if_neg (mt List.isEmpty_iff.mp h)]

/-- An entry that no edit targets stays. -/
theorem Exchange.apply_untargeted (x : Exchange) {edits : List Edit} {p : Port} {i : Slot}
    (h : ∀ e ∈ edits, ¬ (e.port = p ∧ e.slot = i)) : ((x.apply edits).map.get p).get i = (x.map.get p).get i := by
  unfold Exchange.apply
  split
  · rfl
  · rcases foldl_writeEntry_get edits (x.generation + 1) x.map p i with ⟨e, he, hp, hi, -⟩ | ⟨-, same⟩
    · exact absurd ⟨hp, hi⟩ (h e he)
    · exact same

/-- An entry takes the source of the one edit that targets it, with the new generation (R5, R44). -/
theorem Exchange.apply_targeted (x : Exchange) {edits : List Edit} {e : Edit} (he : e ∈ edits)
    (single : ∀ f ∈ edits, f.port = e.port → f.slot = e.slot → f = e) :
    ((x.apply edits).map.get e.port).get e.slot = ⟨e.source, x.generation + 1⟩ := by
  rw [Exchange.apply, if_neg (mt List.isEmpty_iff.mp (List.ne_nil_of_mem he))]
  rcases foldl_writeEntry_get edits (x.generation + 1) x.map e.port e.slot with ⟨f, hf, hp, hi, entry⟩ | ⟨none, -⟩
  · rwa [single f hf hp hi] at entry
  · exact absurd ⟨rfl, rfl⟩ (none e he)

/-- Whom a notice is admitted to does not change by notices. -/
theorem Part.calm.admits {s t : Part} (h : s.calm t) (claims : t.claims = s.claims) (n : Notice) (p : Port) :
    t.admits n p = s.admits n p := by
  have directed : t.directedTo n = s.directedTo n := by cases n <;> simp [Part.directedTo, claims]
  simp only [Part.admits, h.1 p, h.mask p, directed]

theorem Part.raiseAll_calm (ns : List Notice) : s.calm (s.raiseAll ns) := Part.calm_foldl _ Part.calm_raise _ _

/-- One of several notices raised in turn reaches a port that it is admitted to. -/
theorem Part.reached_raiseAll {s : Part} {ns : List Notice} {n : Notice} {p : Port} (hn : n ∈ ns)
    (ha : s.admits n p = true) : s.reached (s.raiseAll ns) p n := by
  refine Part.reached_foldl Part.raise Part.calm_raise hn fun as _ => Part.reached_raise ?_
  have earlier : s.raiseAll as = as.foldl Part.raise s := rfl
  rw [← earlier, (s.raiseAll_calm as).admits (by rw [Part.raiseAll_eq]), ha]

/-- The switchover tells the master of each due list, when its port is in lock (R45). -/
theorem Part.reached_applied {m : Port} (due : (s.list m).due s.frameNumber = true) (locked : s.inLock m = true) :
    s.reached s.switchover m (.applied m s.switchover.exch.generation s.frameNumber (s.list m).edits.length) := by
  rw [Part.switchover_exch]
  unfold Part.switchover
  dsimp only
  have written : s.calm { s with
      exch := s.exch.apply s.dueEdits
      lists := .build fun p => if (s.list p).due s.frameNumber then .cleared else s.list p } := Part.calm_of_eq rfl rfl
  refine Part.reached_between written (Part.reached_raiseAll
    (List.mem_map.mpr ⟨m, List.mem_filter.mpr ⟨mem_allPorts m, due⟩, rfl⟩) ?_) (Part.calm_refl _)
  rw [Part.admits_directed rfl]
  exact ⟨locked, rfl⟩

theorem Part.takeBytes_standing : s.advanceCounter.readStores.takeBytes.frameNumber = s.exch.counter + 1
    ∧ (∀ m, s.advanceCounter.readStores.takeBytes.list m = s.list m) := by
  constructor
  · rw [Part.frameNumber, Part.takeBytes_exch, Part.readStores_exch]
    rfl
  · intro m
    rw [Part.list, Part.takeBytes_lists, Part.readStores_lists]
    rfl

theorem Part.switched_exch : s.switched.exch = (s.frameStart cause).exch := by
  simp [Part.frameStart_def, Part.switched]

theorem Part.frameStart_reached_applied {m : Port} (due : s.listDue m (s.exch.counter + 1))
    (locked : s.inLock m = true) :
    s.reached (s.frameStart cause) m (.applied m (s.frameStart cause).exch.generation (s.exch.counter + 1)
      (s.list m).edits.length) := by
  obtain ⟨number, lists⟩ := s.takeBytes_standing
  have applied := Part.reached_applied s.advanceCounter.readStores.takeBytes (m := m)
    ((StagingList.due_iff _ _).mpr (by rw [lists, number]; exact due)) ((s.calm_takeBytes.1 m).trans locked)
  rw [← Part.switched, number, lists, s.switched_exch cause] at applied
  exact Part.reached_between s.calm_takeBytes applied (s.switched_to_frameStart cause)

/-- Settles O8: the exchange after the due edits are written, and the lists after the switchover and the lapses. -/
theorem switchoverWritesTheDueLists : Obligations.SwitchoverWritesTheDueLists := by
  intro cause s running due single
  refine ⟨_, exec_exchangeFrameStart_taken running due, ?_⟩
  dsimp only
  have exch := s.part.frameStart_exch cause
  have lists := fun m => s.part.frameStart_list cause m
  have applied := fun m => s.part.frameStart_reached_applied cause (m := m)
  generalize s.part.frameStart cause = t at exch lists applied ⊢
  have edits := fun e => s.part.mem_dueEdits_iff (e := e)
  have empty := s.part.dueEdits_eq_nil_iff
  refine ⟨fun ⟨m, listDue, nonempty⟩ => ?written, fun none => ?unwritten, fun m listDue e he => ?entry,
    fun p i untargeted => ?others, fun m listDue => ⟨?cleared, applied m listDue⟩, fun m notDue stays => ?kept⟩
  case written => rw [exch, Exchange.apply_generation _ fun h => nonempty (empty.mp h m listDue)]; rfl
  case unwritten => rw [exch, empty.mpr none, Exchange.apply_nil]; rfl
  case entry =>
    rw [Part.entry, exch]
    refine Exchange.apply_targeted _ ((edits e).mpr ⟨m, listDue, he⟩) fun f hf hp hi => ?_
    obtain ⟨n, -, hfn⟩ := (edits f).mp hf
    exact single n m f e hfn he hp hi
  case others =>
    rw [Part.entry, exch]
    refine Exchange.apply_untargeted _ fun e he => ?_
    obtain ⟨m, listDue, hem⟩ := (edits e).mp he
    exact untargeted m listDue e hem
  case cleared => rw [lists, if_pos (.inr ((StagingList.due_iff _ _).mpr listDue))]; rfl
  case kept =>
    rw [lists, if_neg]
    rintro (lapses | isDue)
    · exact stays lapses
    · exact notDue ((StagingList.due_iff _ _).mp isDue)

/-! ### The frames (R10 to R15) -/

/-- A byte of an assembled frame (R11 to R13). -/
theorem Part.assembled_getElem? (ys : Bank 4 (Option Frame)) (bs : Bank 8 Byte) (p : Port) {i : Slot}
    (h : i.val < (s.port p).profile.slots) : (s.assembled ys bs p)[i.val]? = some (s.slotByte ys bs p i) := by
  rw [Part.assembled, List.getElem?_map, List.getElem?_take_of_lt h,
    List.getElem?_eq_getElem (by simp), List.getElem_finRange]
  rfl

/-- Settles O9: the frame that the part assembles after its switchover is written into the store of a port in lock. -/
theorem framesAreAssembledFromTheNewMap : Obligations.FramesAreAssembledFromTheNewMap := by
  intro cause s running due
  refine ⟨_, exec_exchangeFrameStart_taken running due, fun p => ⟨fun out => ?left, fun locked => ?written⟩⟩
  case left => rw [Part.frameStart_outStores, if_neg (by simp [out])]
  case written =>
    have profile := s.part.switched_profile
    refine ⟨s.part.switched.assembled s.part.yields s.part.playbackBytes p, ?_, fun i hi => ?_, ?_⟩
    · rw [Part.assembled_length, profile]
    · rw [Part.assembled_getElem? _ _ _ p (by rwa [profile])]
      have entry : (s.part.frameStart cause).entry p i = s.part.switched.entry p i := by
        rw [Part.entry, Part.entry, ← s.part.switched_exch cause]
      simp only [Part.slotByte, Part.fill, profile, entry, Part.yields, Part.playbackBytes, Bank.get_build]
      split
      · rfl
      · cases (s.part.switched.entry p i).source with
        | inbound q j =>
          dsimp only
          cases (s.part.inStores.get q).yield <;> rfl
        | idle => rfl
        | constant v => rfl
        | playback k => rfl
    · rw [Part.frameStart_outStores, if_pos locked]
      simp only [Store.write, Store.writeDrops, decide_eq_true_eq, ← Nat.not_lt, ite_not]

end

end Sys2Proof.Machine
end

section
/-! Chapters 2, 4 and 9 at an exchange frame start: the slips of the stores (R58 to R61), the playback bytes
(R152 to R155), the lapse timers (R28 to R31), and LAPSE, which is such a start. -/

namespace Sys2Proof.Machine

open Sys2Proof

/-! ### Slips (R58 to R61) -/

section
variable {s : Part}

/-- A slip tells the other ports in lock whose masks include SLIP, with the count just reached (R60, R61). -/
theorem Part.reached_slip {q x : Port} (d : Direction) (k : SlipKind) (other : x ≠ q) (locked : s.inLock x = true)
    (masked : (s.chan x).mask.getLsbD 1 = true) :
    s.reached (s.slip q d k) x
      (.slip q d k (((s.port q).counters.addSlip d k).slips d k) s.exch.counter) := by
  have counted : s.calm (s.count q fun c => c.addSlip d k) := ⟨fun p => s.count_inLock q p _, Part.notified_of_eq rfl⟩
  unfold Part.slip
  dsimp only
  have count : ((s.count q fun c => c.addSlip d k).port q).counters = (s.port q).counters.addSlip d k := by
    rw [Part.count_port, if_pos rfl]
  rw [count]
  refine Part.reached_between counted (Part.reached_raise ?_) (Part.calm_refl _)
  rw [Part.admits_broadcast (bit := 1) rfl]
  exact ⟨(counted.1 x).trans locked, by simp [Notice.concerned, other.symm], masked⟩

/-- A read of a primed, empty store tells the other ports of a repeat. -/
theorem Part.reached_repeat {q x : Port} (repeats : (s.inStores.get q).readRepeats = true) (other : x ≠ q)
    (locked : s.inLock x = true) (masked : (s.chan x).mask.getLsbD 1 = true) :
    s.reached (s.readInbound q) x
      (.slip q .inbound .repeated ((s.port q).counters.inRepeats + 1) s.exch.counter) := by
  unfold Part.readInbound
  dsimp only
  rw [if_pos repeats]
  have read : s.calm { s with inStores := s.inStores.set q (s.inStores.get q).read } := Part.calm_of_eq rfl rfl
  exact Part.reached_between read (Part.reached_slip .inbound .repeated other locked masked) (Part.calm_refl _)

/-- A write to a full store tells the other ports of a drop. -/
theorem Part.reached_drop {q x : Port} (f : Frame) (drops : (s.outStores.get q).writeDrops = true) (other : x ≠ q)
    (locked : s.inLock x = true) (masked : (s.chan x).mask.getLsbD 1 = true) :
    s.reached (s.writeOutbound q f) x
      (.slip q .outbound .dropped ((s.port q).counters.outDrops + 1) s.exch.counter) := by
  unfold Part.writeOutbound
  dsimp only
  rw [if_pos drops]
  have written : s.calm { s with outStores := s.outStores.set q ((s.outStores.get q).write f) } :=
    Part.calm_of_eq rfl rfl
  exact Part.reached_between written (Part.reached_slip .outbound .dropped other locked masked) (Part.calm_refl _)

/-- A store of which another store's read or write is no concern. -/
theorem Part.readInbound_others {p q : Port} (h : p ≠ q) :
    ((s.readInbound p).port q, (s.readInbound p).inStores.get q, (s.readInbound p).exch)
      = (s.port q, s.inStores.get q, s.exch) := by
  rw [Part.readInbound_port, if_neg h.symm, Part.readInbound_eq]
  simp only [Bank.get_set_ne _ _ h.symm]

theorem Part.writeOutbound_others {p q : Port} (f : Frame) (h : p ≠ q) :
    ((s.writeOutbound p f).port q, (s.writeOutbound p f).outStores.get q, (s.writeOutbound p f).exch)
      = (s.port q, s.outStores.get q, s.exch) := by
  rw [Part.writeOutbound_port, if_neg h.symm, Part.writeOutbound_eq]
  simp only [Bank.get_set_ne _ _ h.symm]

/-- Reading the inbound stores tells of every repeat. -/
theorem Part.readStores_reached {q x : Port} (repeats : (s.inStores.get q).readRepeats = true) (other : x ≠ q)
    (locked : s.inLock x = true) (masked : (s.chan x).mask.getLsbD 1 = true) :
    s.reached s.readStores x
      (.slip q .inbound .repeated ((s.port q).counters.inRepeats + 1) s.exch.counter) := by
  refine Part.reached_foldl Part.readInbound Part.readInbound_calm (mem_allPorts q) fun as first => ?_
  have calm := Part.calm_foldl Part.readInbound Part.readInbound_calm as s
  have same := foldl_untouched Part.readInbound (fun v => (v.port q, v.inStores.get q, v.exch)) as
    (fun v p hp => v.readInbound_others fun e => first (e ▸ hp)) s
  generalize as.foldl Part.readInbound s = v at calm same ⊢
  obtain ⟨port, store, exch⟩ := Prod.mk.inj same |>.imp_right Prod.mk.inj
  rw [← port, ← exch]
  exact Part.reached_repeat (store ▸ repeats) other ((calm.1 x).trans locked) (by rwa [calm.mask x])

/-- One round of the writing: a port in lock takes its frame. -/
theorem Part.writeRound_calm (locked : Port → Bool) (frame : Port → Frame) (v : Part) (p : Port) :
    v.calm (if locked p then v.writeOutbound p (frame p) else v) := by
  split
  · exact v.writeOutbound_calm p _
  · exact v.calm_refl

/-- Writing the assembled frames tells of every drop. -/
theorem Part.writeFrames_reached (ys : Bank 4 (Option Frame)) (bs : Bank 8 Byte) {q x : Port}
    (inLock : s.inLock q = true) (drops : (s.outStores.get q).writeDrops = true) (other : x ≠ q)
    (locked : s.inLock x = true) (masked : (s.chan x).mask.getLsbD 1 = true) :
    s.reached (s.writeFrames ys bs) x
      (.slip q .outbound .dropped ((s.port q).counters.outDrops + 1) s.exch.counter) := by
  have round := Part.writeRound_calm s.inLock (s.assembled ys bs)
  refine Part.reached_foldl (fun (v : Part) p => if s.inLock p then v.writeOutbound p (s.assembled ys bs p) else v)
    round (mem_allPorts q) fun as first => ?_
  have calm := Part.calm_foldl _ round as s
  have same := foldl_untouched (fun (v : Part) p => if s.inLock p then v.writeOutbound p (s.assembled ys bs p) else v)
    (fun v => (v.port q, v.outStores.get q, v.exch)) as (fun v p hp => by
      split
      · exact v.writeOutbound_others _ fun e => first (e ▸ hp)
      · rfl) s
  generalize as.foldl _ s = v at calm same ⊢
  obtain ⟨port, store, exch⟩ := Prod.mk.inj same |>.imp_right Prod.mk.inj
  rw [if_pos inLock, ← port, ← exch]
  exact Part.reached_drop _ (store ▸ drops) other ((calm.1 x).trans locked) (by rwa [calm.mask x])

/-! What each store yields and keeps when it is read (R58, R59). -/

theorem Store.readRepeats_iff (st : Store) : st.readRepeats = true ↔ st.primed = true ∧ st.queue = [] := by
  simp [Store.readRepeats]

theorem Store.read_unprimed {st : Store} (h : st.primed = false) : st.yield = none ∧ st.read = st := by
  simp [Store.yield, Store.read, h]

theorem Store.read_empty {st : Store} (h : st.primed = true) (empty : st.queue = []) :
    st.yield = st.last ∧ st.read = st := by
  simp [Store.yield, Store.read, h, empty]

theorem Store.read_head {st : Store} {f : Frame} {rest : List Frame} (h : st.primed = true)
    (queue : st.queue = f :: rest) : st.yield = some f ∧ st.read = { st with queue := rest, last := some f } := by
  simp [Store.yield, Store.read, h, queue]

/-- The counters of a port after a start: its repeats and its drops rise by the slips of the start (R60). -/
theorem Part.frameStart_counters (cause : StartCause) (q : Port) :
    ((s.frameStart cause).port q).counters = { (s.port q).counters with
      inRepeats := (s.port q).counters.inRepeats
        + (if (s.inStores.get q).primed = true ∧ (s.inStores.get q).queue = [] then 1 else 0)
      outDrops := (s.port q).counters.outDrops
        + (if s.inLock q = true ∧ (s.outStores.get q).queue.length ≥ 4 then 1 else 0) } := by
  have drops : (s.inLock q && (s.outStores.get q).writeDrops) = true
      ↔ s.inLock q = true ∧ (s.outStores.get q).queue.length ≥ 4 := by simp [Store.writeDrops]
  rw [Part.frameStart_port]
  simp only [Store.readRepeats_iff, drops]
  split <;> split <;> simp [Counters.addSlip]

end

/-- Settles O10: the one read of each store, the counters, and the slips told on the way. -/
theorem inboundStoresAreReadOnce : Obligations.InboundStoresAreReadOnce := by
  intro cause s running due
  refine ⟨_, exec_exchangeFrameStart_taken running due, fun q => ?_⟩
  dsimp only
  rw [Part.frameStart_inStores]
  refine ⟨Store.read_unprimed, Store.read_empty, fun f rest => Store.read_head, s.part.frameStart_counters cause q,
    fun x other locked masked => ⟨fun primed empty => ?repeated, fun inLock full => ?dropped⟩⟩
  case repeated =>
    have told := Part.readStores_reached (s := s.part.advanceCounter) (q := q) (x := x)
      (show (s.part.inStores.get q).readRepeats = true from (Store.readRepeats_iff _).mpr ⟨primed, empty⟩) other
      ((s.part.advanceCounter_calm.1 x).trans locked) (by rwa [s.part.advanceCounter_calm.mask x])
    have standing : (s.part.advanceCounter.port q, s.part.advanceCounter.exch.counter)
        = (s.part.port q, s.part.exch.counter + 1) := rfl
    obtain ⟨port, number⟩ := Prod.mk.inj standing
    rw [port, number] at told
    exact Part.reached_between s.part.advanceCounter_calm told (s.part.readStores_to_frameStart cause)
  case dropped =>
    have calm := s.part.calm_switched
    have stores : s.part.switched.outStores = s.part.outStores := by simp [Part.switched]
    have port : (s.part.switched.port q).counters.outDrops = (s.part.port q).counters.outDrops := by
      have ports : s.part.switched.port q = s.part.advanceCounter.readStores.port q := by
        simp [Part.port, Part.switched]
      rw [ports, Part.readStores_port]
      dsimp only
      split <;> rfl
    have number : s.part.switched.exch.counter = s.part.exch.counter + 1 := by
      rw [s.part.switched_exch cause, Part.frameStart_counter]
    have drops : (s.part.switched.outStores.get q).writeDrops = true := by
      rw [stores]
      simpa [Store.writeDrops] using full
    have mask : (s.part.switched.chan x).mask.getLsbD 1 = true := by
      rw [calm.mask x]
      exact masked
    have told := Part.writeFrames_reached s.part.yields s.part.playbackBytes ((calm.1 q).trans inLock) drops other
      ((calm.1 x).trans locked) mask
    rw [port, number] at told
    exact Part.reached_between calm told (s.part.assembledFrames_to_frameStart cause)

/-! ### The playback bytes (R152, R153, R155) -/

section
variable {c : ChannelRecord}

theorem ChannelRecord.taken_of_not_playing (h : c.state ≠ .playing) : c.yield = c.rest ∧ c.taken = c := by
  unfold ChannelRecord.yield ChannelRecord.taken
  constructor <;> split <;> simp_all

theorem ChannelRecord.taken_empty (h : c.state = .playing) (empty : c.queue = []) :
    c.yield = c.rest ∧ c.taken = { c with underruns := c.underruns + 1 } := by
  simp [ChannelRecord.yield, ChannelRecord.taken, h, empty]

/-- A PLAYING channel gives the head of its queue. -/
theorem ChannelRecord.taken_head {b : Byte} {rest : List Byte} (h : c.state = .playing) (queue : c.queue = b :: rest) :
    c.yield = b ∧ c.taken = { c with queue := rest }.advance := by
  simp [ChannelRecord.yield, ChannelRecord.taken, h, queue]

variable {d : Descriptor} (hd : c.desc = some d)
include hd

theorem ChannelRecord.advance_inside (h : c.position + 1 ≠ d.length.toNat) :
    c.advance = { c with position := c.position + 1 } := by
  simp [ChannelRecord.advance, hd, h]

theorem ChannelRecord.advance_loop (h : c.position + 1 = d.length.toNat) (mode : d.mode = .loop) :
    c.advance = { c with position := d.loopOffset.toNat } := by
  simp [ChannelRecord.advance, hd, h, mode]

theorem ChannelRecord.advance_once (h : c.position + 1 = d.length.toNat) (mode : d.mode = .once) :
    c.advance = { c with position := d.length.toNat, state := .ended } := by
  simp [ChannelRecord.advance, hd, h, mode]

end

/-- An ending tells the holder of the channel, when its port is in lock (R155). -/
theorem Part.reached_ending {s : Part} {k : Channel} {h : Port} (ends : (s.channel k).ends = true)
    (held : s.claims.holder (.channel k) = some h) (locked : s.inLock h = true) :
    s.reached (s.takeByte k) h (.playback k .ended (s.channel k).pattern s.exch.counter) := by
  unfold Part.takeByte
  dsimp only
  rw [if_pos ends]
  have taken : s.calm (s.setChannel k (s.channel k).taken) := Part.calm_of_eq rfl rfl
  refine Part.reached_between taken (Part.reached_raise ?_) (Part.calm_refl _)
  rw [Part.admits_directed rfl]
  exact ⟨locked, held⟩

theorem Part.takeBytes_reached {s : Part} {k : Channel} {h : Port} (ends : (s.channel k).ends = true)
    (held : s.claims.holder (.channel k) = some h) (locked : s.inLock h = true) :
    s.reached s.takeBytes h (.playback k .ended (s.channel k).pattern s.exch.counter) := by
  refine Part.reached_foldl Part.takeByte Part.takeByte_calm (mem_allChannels k) fun as first => ?_
  have calm := Part.calm_foldl Part.takeByte Part.takeByte_calm as s
  have same := foldl_untouched Part.takeByte (fun v => (v.channel k, v.claims, v.exch)) as
    (fun v j hj => by
      rw [Part.takeByte_channel, if_neg fun e : k = j => first (e ▸ hj), Part.takeByte_eq]) s
  generalize as.foldl Part.takeByte s = v at calm same ⊢
  obtain ⟨channel, claims, exch⟩ := Prod.mk.inj same |>.imp_right Prod.mk.inj
  rw [← channel, ← exch]
  exact Part.reached_ending (channel ▸ ends) (claims ▸ held) ((calm.1 h).trans locked)

/-- Settles O11: the record after its byte is taken, by its state and its queue. -/
theorem playbackBytesAreTaken : Obligations.PlaybackBytesAreTaken := by
  intro cause s running due
  refine ⟨_, exec_exchangeFrameStart_taken running due, fun k => ?_⟩
  dsimp only
  rw [Part.frameStart_channel]
  refine ⟨ChannelRecord.taken_of_not_playing, ChannelRecord.taken_empty, fun b rest d playing queue desc => ?_⟩
  obtain ⟨yields, taken⟩ := ChannelRecord.taken_head playing queue
  rw [taken]
  refine ⟨yields, fun inside => ChannelRecord.advance_inside desc inside,
    fun last mode => ChannelRecord.advance_loop desc last mode, fun last mode =>
      ⟨ChannelRecord.advance_once desc last mode, fun h held locked => ?ended⟩⟩
  have ends : (s.part.channel k).ends = true := by
    rw [ChannelRecord.ends, taken, ChannelRecord.advance_once (c := { s.part.channel k with queue := rest }) desc last mode,
      playing]
    rfl
  have channel : s.part.advanceCounter.readStores.channel k = s.part.channel k := by
    rw [Part.channel, Part.readStores_play]
    rfl
  have claims : s.part.advanceCounter.readStores.claims = s.part.claims := by
    rw [Part.readStores_claims]
    rfl
  have number : s.part.advanceCounter.readStores.exch.counter = s.part.exch.counter + 1 := by
    rw [Part.readStores_exch]
    rfl
  have told := Part.takeBytes_reached (s := s.part.advanceCounter.readStores) (k := k) (h := h)
    (by rw [channel, ends]) (by rw [claims, held]) ((s.part.calm_readStores.1 h).trans locked)
  rw [channel, number] at told
  exact Part.reached_between s.part.calm_readStores told (s.part.takeBytes_to_frameStart cause)

end Sys2Proof.Machine
end

section
/-! Chapter 2, the lapses (R28 to R31): the notice of a lapse, the lapses of an exchange frame start, and those that
LAPSE takes ahead of the switchover. -/

namespace Sys2Proof.Machine

open Sys2Proof

/-! ### One lapse -/

theorem ClaimUnit.holding_congr {c d : ClaimUnit} {p : Port} (h : ∀ o, c.holder o = some p ↔ d.holder o = some p) :
    c.holding p = d.holding p := by
  unfold ClaimUnit.holding
  congr 1
  funext o
  rw [Bool.eq_iff_iff, beq_iff_eq, beq_iff_eq, h]

theorem ClaimUnit.holding_eq_nil_iff {c : ClaimUnit} {p : Port} : c.holding p = [] ↔ ∀ o, c.holder o ≠ some p := by
  simp only [List.eq_nil_iff_forall_not_mem, ClaimUnit.mem_holding, ne_eq]

theorem Part.setLapseTimer_holding (s : Part) (p q : Port) (n : Nat) :
    (s.setLapseTimer p n).claims.holding q = s.claims.holding q :=
  ClaimUnit.holding_congr fun o => by rw [Part.setLapseTimer_holder]

/-- A lapse of port `p`: its timer has reached 2048, and what it held is free (R28, R29). -/
def Part.lapsed (s : Part) (p : Port) : Part := (s.setLapseTimer p 2048).lapsePort p

section
variable (s : Part) (p : Port)

theorem Part.lapsed_lapseTimer (q : Port) : (s.lapsed p).lapseTimer q = if q = p then 2048 else s.lapseTimer q := by
  rw [Part.lapsed, Part.lapsePort_lapseTimer, Part.setLapseTimer_lapseTimer]

theorem Part.lapsed_list (q : Port) : (s.lapsed p).list q = if q = p then .cleared else s.list q :=
  Part.lapsePort_list _ _ _

theorem Part.lapsed_holder (o : ClaimObject) :
    (s.lapsed p).claims.holder o = if s.claims.holder o = some p then none else s.claims.holder o := by
  rw [Part.lapsed, Part.lapsePort_holder, Part.setLapseTimer_holder]

/-- Another port holds what it held. -/
theorem Part.lapsed_holding {q : Port} (h : q ≠ p) : (s.lapsed p).claims.holding q = s.claims.holding q :=
  ClaimUnit.holding_congr fun o => by
    rw [Part.lapsed_holder]
    split
    case isTrue held => simp [held, h.symm]
    case isFalse => rfl

/-- The channels after a lapse: CLAIMS_FREED is raised when an object was freed (R31). -/
theorem Part.lapsed_chans :
    (s.lapsed p).chans =
      if s.claims.holding p = [] then s.chans
      else (s.raise (.claimsFreed p (s.claims.holding p).length)).chans := by
  unfold Part.lapsed Part.lapsePort
  dsimp only
  rw [Part.setLapseTimer_holding]
  by_cases none : s.claims.holding p = []
  · rw [if_pos (by simp [none]), if_pos none]
    rfl
  · rw [if_neg (by simpa using none), if_neg none]
    rfl

/-- A lapse that frees an object tells the other ports in lock whose masks include it (R31). -/
theorem Part.reached_claimsFreed {s : Part} {p q : Port} (out : s.inLock p = false)
    (some : ∃ o, s.claims.holder o = some p) (locked : s.inLock q = true)
    (masked : (s.chan q).mask.getLsbD 3 = true) :
    s.reached (s.lapsed p) q (.claimsFreed p (s.claims.holding p).length) := by
  have other : q ≠ p := fun e => by rw [e, out] at locked; exact absurd locked (by decide)
  have nonempty : s.claims.holding p ≠ [] := fun none => by
    obtain ⟨o, held⟩ := some
    exact ClaimUnit.holding_eq_nil_iff.mp none o held
  have told : s.reached (s.raise (.claimsFreed p (s.claims.holding p).length)) q
      (.claimsFreed p (s.claims.holding p).length) := Part.reached_raise (by
    rw [Part.admits_broadcast (bit := 3) rfl]
    exact ⟨locked, by simp [Notice.concerned, other.symm], masked⟩)
  unfold Part.reached at told ⊢
  rwa [Part.chan, Part.lapsed_chans, if_neg nonempty]

end

/-! ### The lapses of a start (R28 to R31) -/

theorem Part.countLapse_of_lapses {s : Part} {p : Port} (h : s.lapses p) : s.countLapse p = s.lapsed p := by
  rcases s.countLapse_cases p with ⟨-, eq⟩ | ⟨stays, -⟩ | ⟨stays, -⟩
  · exact eq
  · exact absurd h stays
  · exact absurd ⟨h.1, by rw [h.2]; decide⟩ stays

/-- The count of another port's timer leaves a port's own timer and holding. -/
theorem Part.countLapse_others (s : Part) {p q : Port} (h : p ≠ q) :
    ((s.countLapse p).lapseTimer q, (s.countLapse p).claims.holding q) = (s.lapseTimer q, s.claims.holding q) := by
  rw [Part.countLapse_lapseTimer, if_neg h.symm, ClaimUnit.holding_congr fun o => ?_]
  rw [Part.countLapse_holder]
  split
  case isTrue held => simp [held.2, h]
  case isFalse => rfl

theorem Part.countLapses_reached {s : Part} {p q : Port} (lapses : s.lapses p)
    (some : ∃ o, s.claims.holder o = some p) (locked : s.inLock q = true)
    (masked : (s.chan q).mask.getLsbD 3 = true) :
    s.reached s.countLapses q (.claimsFreed p (s.claims.holding p).length) := by
  refine Part.reached_foldl Part.countLapse Part.countLapse_calm (mem_allPorts p) fun as first => ?_
  have calm := Part.calm_foldl Part.countLapse Part.countLapse_calm as s
  have same := foldl_untouched Part.countLapse (fun v => (v.lapseTimer p, v.claims.holding p)) as
    (fun v j hj => v.countLapse_others fun e => first (e ▸ hj)) s
  generalize as.foldl Part.countLapse s = v at calm same ⊢
  obtain ⟨timer, holding⟩ := Prod.mk.inj same
  rw [← holding, Part.countLapse_of_lapses ⟨(calm.1 p).trans lapses.1, timer.trans lapses.2⟩]
  refine Part.reached_claimsFreed ((calm.1 p).trans lapses.1) ?_ ((calm.1 q).trans locked) (by rw [calm.mask q]; exact masked)
  obtain ⟨o, held⟩ := some
  exact ⟨o, (v.claims.mem_holding p o).mp (holding ▸ (s.claims.mem_holding p o).mpr held)⟩

/-- Settles O12: the timers, holders and lists after the counts, and the notices of the lapses. -/
theorem lapseTimersCountFrameStarts : Obligations.LapseTimersCountFrameStarts := by
  intro cause s running due
  refine ⟨_, exec_exchangeFrameStart_taken running due, ?_⟩
  dsimp only
  refine ⟨s.part.frameStart_lapseTimer cause, fun o p held lapses => ?freed, fun o kept => ?kept,
    fun p lapses => ?list, fun p q lapses some locked masked => ?told⟩
  case freed => rw [Part.frameStart_holder, if_pos ⟨p, lapses, held⟩]
  case kept => rw [Part.frameStart_holder, if_neg fun ⟨p, lapses, held⟩ => kept p held lapses]
  case list => rw [Part.frameStart_list, if_pos (.inl lapses)]; rfl
  case told =>
    have calm := s.part.calm_assembledFrames
    have mask : (s.part.assembledFrames.chan q).mask.getLsbD 3 = true := by
      rw [calm.mask q]
      exact masked
    have told := Part.countLapses_reached ((s.part.assembledFrames_lapses p).mpr lapses)
      (by rw [Part.assembledFrames_claims]; exact some) ((calm.1 q).trans locked) mask
    rw [Part.assembledFrames_claims] at told
    exact Part.reached_between calm told (Part.referenceShare_calm _ cause)

/-! ### LAPSE (R28 to R30) -/

section
variable {s : Part} {p : Port}

theorem Part.lapseAhead_of_lapses (h : s.lapses p) : s.lapseAhead p = s.lapsed p := by
  rw [Part.lapseAhead, if_pos ((s.lapseDue_iff p).mpr h), Part.lapsed]

theorem Part.lapseAhead_of_not_lapses (h : ¬ s.lapses p) : s.lapseAhead p = s := by
  rw [Part.lapseAhead, if_neg (mt (s.lapseDue_iff p).mp h)]

/-- Once its timer stands at 2048 a port lapses no more. -/
theorem Part.lapsed_lapses (q : Port) (h : s.lapses p) : (s.lapsed p).lapses q ↔ q ≠ p ∧ s.lapses q := by
  have inLock : (s.lapsed p).inLock q = s.inLock q := by
    rw [← Part.lapseAhead_of_lapses h, Part.lapseAhead_inLock]
  rw [Part.lapses, Part.lapsed_lapseTimer, inLock]
  by_cases own : q = p
  · simp [own]
  · simp [own, Part.lapses]

/-- What is made of a port's record by the lapses of a list: `after` when the port is of the list and lapses. -/
theorem Part.foldl_lapseAhead_each {α : Type} (g : Part → Port → α) (after : α)
    (one : ∀ (s : Part) p q, g (s.lapsed p) q = if q = p then after else g s q) (l : List Port) (s : Part) (q : Port) :
    g (l.foldl Part.lapseAhead s) q = if q ∈ l ∧ s.lapses q then after else g s q := by
  induction l generalizing s with
  | nil => simp
  | cons p l ih =>
    rw [List.foldl_cons, ih]
    by_cases lapses : s.lapses p
    · simp only [Part.lapseAhead_of_lapses lapses, Part.lapsed_lapses q lapses, one]
      by_cases own : q = p
      · subst own
        simp [show s.lapses q from lapses]
      · simp [own]
    · rw [Part.lapseAhead_of_not_lapses lapses]
      refine if_congr ⟨fun h => ⟨List.mem_cons_of_mem _ h.1, h.2⟩, fun h => ⟨?_, h.2⟩⟩ rfl rfl
      exact (List.mem_cons.mp h.1).resolve_left fun e => lapses (e ▸ h.2)

/-- The holders after the lapses of a list. -/
theorem Part.foldl_lapseAhead_holder (l : List Port) (s : Part) (o : ClaimObject) :
    (l.foldl Part.lapseAhead s).claims.holder o =
      if ∃ q, (q ∈ l ∧ s.lapses q) ∧ s.claims.holder o = some q then none else s.claims.holder o := by
  induction l generalizing s with
  | nil => simp
  | cons p l ih =>
    rw [List.foldl_cons, ih]
    by_cases lapses : s.lapses p
    · simp only [Part.lapseAhead_of_lapses lapses, Part.lapsed_lapses _ lapses, Part.lapsed_holder]
      by_cases own : s.claims.holder o = some p
      · rw [if_pos own, ite_self, if_pos ⟨p, ⟨List.mem_cons_self, lapses⟩, own⟩]
      · rw [if_neg own]
        refine if_congr ⟨fun ⟨q, ⟨hq, _, hl⟩, held⟩ => ⟨q, ⟨List.mem_cons_of_mem _ hq, hl⟩, held⟩,
          fun ⟨q, ⟨hq, hl⟩, held⟩ => ?_⟩ rfl rfl
        have other : q ≠ p := fun e => own (e ▸ held)
        exact ⟨q, ⟨(List.mem_cons.mp hq).resolve_left other, other, hl⟩, held⟩
    · rw [Part.lapseAhead_of_not_lapses lapses]
      refine if_congr ⟨fun ⟨q, ⟨hq, hl⟩, held⟩ => ⟨q, ⟨List.mem_cons_of_mem _ hq, hl⟩, held⟩,
        fun ⟨q, ⟨hq, hl⟩, held⟩ => ⟨q, ⟨?_, hl⟩, held⟩⟩ rfl rfl
      exact (List.mem_cons.mp hq).resolve_left fun e => lapses (e ▸ hl)

/-- With nothing freed, nothing is told. -/
theorem Part.foldl_lapseAhead_silent (l : List Port) (s : Part)
    (none : ∀ q ∈ l, s.lapses q → ∀ o, s.claims.holder o ≠ some q) : (l.foldl Part.lapseAhead s).chans = s.chans := by
  induction l generalizing s with
  | nil => rfl
  | cons p l ih =>
    rw [List.foldl_cons]
    by_cases lapses : s.lapses p
    · have empty : s.claims.holding p = [] :=
        ClaimUnit.holding_eq_nil_iff.mpr (none p List.mem_cons_self lapses)
      rw [Part.lapseAhead_of_lapses lapses, ih, Part.lapsed_chans, if_pos empty]
      intro q hq hl o held
      have before := none q (List.mem_cons_of_mem _ hq) ((Part.lapsed_lapses q lapses).mp hl).2 o
      rw [Part.lapsed_holder] at held
      split at held
      · cases held
      · exact before held
    · rw [Part.lapseAhead_of_not_lapses lapses]
      exact ih s fun q hq => none q (List.mem_cons_of_mem _ hq)

/-- Where no port of a list lapses, nothing changes. -/
theorem Part.foldl_lapseAhead_none (l : List Port) (s : Part) (none : ∀ q ∈ l, ¬ s.lapses q) :
    l.foldl Part.lapseAhead s = s := by
  induction l with
  | nil => rfl
  | cons p l ih =>
    rw [List.foldl_cons, Part.lapseAhead_of_not_lapses (none p List.mem_cons_self)]
    exact ih fun q hq => none q (List.mem_cons_of_mem _ hq)

/-- The lapse of another port leaves a port's own timer and holding. -/
theorem Part.lapseAhead_others (s : Part) {p q : Port} (h : p ≠ q) :
    ((s.lapseAhead p).lapseTimer q, (s.lapseAhead p).claims.holding q) = (s.lapseTimer q, s.claims.holding q) := by
  by_cases lapses : s.lapses p
  · rw [Part.lapseAhead_of_lapses lapses, Part.lapsed_lapseTimer, if_neg h.symm, Part.lapsed_holding _ _ h.symm]
  · rw [Part.lapseAhead_of_not_lapses lapses]

theorem Part.foldl_lapseAhead_reached {l : List Port} {s : Part} {p q : Port} (hp : p ∈ l) (lapses : s.lapses p)
    (some : ∃ o, s.claims.holder o = some p) (locked : s.inLock q = true)
    (masked : (s.chan q).mask.getLsbD 3 = true) :
    s.reached (l.foldl Part.lapseAhead s) q (.claimsFreed p (s.claims.holding p).length) := by
  refine Part.reached_foldl Part.lapseAhead Part.lapseAhead_calm hp fun as first => ?_
  have calm := Part.calm_foldl Part.lapseAhead Part.lapseAhead_calm as s
  have same := foldl_untouched Part.lapseAhead (fun v => (v.lapseTimer p, v.claims.holding p)) as
    (fun v j hj => v.lapseAhead_others fun e => first (e ▸ hj)) s
  generalize as.foldl Part.lapseAhead s = v at calm same ⊢
  obtain ⟨timer, holding⟩ := Prod.mk.inj same
  rw [← holding, Part.lapseAhead_of_lapses ⟨(calm.1 p).trans lapses.1, timer.trans lapses.2⟩]
  refine Part.reached_claimsFreed ((calm.1 p).trans lapses.1) ?_ ((calm.1 q).trans locked) (by rw [calm.mask q]; exact masked)
  obtain ⟨o, held⟩ := some
  exact ⟨o, (v.claims.mem_holding p o).mp (holding ▸ (s.claims.mem_holding p o).mpr held)⟩

end

section
variable (s : Part) (p : Port) (also : List Port)

/-- Port `q` is one of those that LAPSE takes first, and lapses. -/
def Part.lapsesFirst (q : Port) : Prop := (q = p ∨ q ∈ also) ∧ s.lapses q

theorem Part.mem_lapseFirst_iff (q : Port) : q ∈ p :: also ∧ s.lapses q ↔ s.lapsesFirst p also q := by
  rw [List.mem_cons, Part.lapsesFirst]

theorem Part.lapsesAhead_lapseTimer (q : Port) [Decidable (s.lapsesFirst p also q)] :
    (s.lapsesAhead ⟨p, also⟩).lapseTimer q = if s.lapsesFirst p also q then 2048 else s.lapseTimer q :=
  (Part.foldl_lapseAhead_each Part.lapseTimer 2048 Part.lapsed_lapseTimer (p :: also) s q).trans
    (if_congr (s.mem_lapseFirst_iff p also q) rfl rfl)

theorem Part.lapsesAhead_list (q : Port) [Decidable (s.lapsesFirst p also q)] :
    (s.lapsesAhead ⟨p, also⟩).list q = if s.lapsesFirst p also q then .cleared else s.list q :=
  (Part.foldl_lapseAhead_each Part.list .cleared Part.lapsed_list (p :: also) s q).trans
    (if_congr (s.mem_lapseFirst_iff p also q) rfl rfl)

theorem Part.lapsesAhead_freed {o : ClaimObject} {q : Port} (held : s.claims.holder o = some q)
    (first : s.lapsesFirst p also q) : (s.lapsesAhead ⟨p, also⟩).claims.holder o = none := by
  refine (Part.foldl_lapseAhead_holder (p :: also) s o).trans (if_pos ?_)
  exact ⟨q, (s.mem_lapseFirst_iff p also q).mpr first, held⟩

theorem Part.lapsesAhead_kept {o : ClaimObject} (kept : ∀ q, s.claims.holder o = some q → ¬ s.lapsesFirst p also q) :
    (s.lapsesAhead ⟨p, also⟩).claims.holder o = s.claims.holder o := by
  refine (Part.foldl_lapseAhead_holder (p :: also) s o).trans (if_neg ?_)
  exact fun ⟨q, first, held⟩ => kept q held ((s.mem_lapseFirst_iff p also q).mp first)

theorem Part.lapsesAhead_calm : s.calm (s.lapsesAhead ⟨p, also⟩) := Part.calm_foldl _ Part.lapseAhead_calm _ _

/-- Where no other port lapses with it, a lapse that frees an object is told once. -/
theorem Part.lapsesAhead_chans (lapses : s.lapses p) (alone : ∀ q, s.lapsesFirst p also q → q = p)
    (some : ∃ o, s.claims.holder o = some p) :
    (s.lapsesAhead ⟨p, also⟩).chans = (s.raise (.claimsFreed p (s.claims.holding p).length)).chans := by
  have rest : also.foldl Part.lapseAhead (s.lapsed p) = s.lapsed p := by
    refine Part.foldl_lapseAhead_none also _ fun q hq again => ?_
    obtain ⟨other, hl⟩ := (Part.lapsed_lapses q lapses).mp again
    exact other (alone q ⟨.inr hq, hl⟩)
  have nonempty : s.claims.holding p ≠ [] := fun none => by
    obtain ⟨o, held⟩ := some
    exact ClaimUnit.holding_eq_nil_iff.mp none o held
  rw [Part.lapsesAhead, List.foldl_cons, Part.lapseAhead_of_lapses lapses, rest, Part.lapsed_chans, if_neg nonempty]

variable (cause : StartCause)

theorem Part.lapsesAhead_startDue : (s.lapsesAhead ⟨p, also⟩).startDue cause = s.startDue cause := by
  cases cause <;> simp [Part.startDue]

/-- With no due list but of ports that lapse first, no edit is written. -/
theorem Part.lapsesAhead_dueEdits (due : ∀ m, s.listDue m (s.exch.counter + 1) → s.lapsesFirst p also m) :
    (s.lapsesAhead ⟨p, also⟩).advanceCounter.dueEdits = [] := by
  classical
  refine (Part.dueEdits_eq_nil_iff _).mpr fun m listDue => ?_
  rw [Part.listDue, Part.lapsesAhead_exch, Part.lapsesAhead_list] at listDue
  rw [Part.lapsesAhead_list]
  by_cases first : s.lapsesFirst p also m
  · rw [if_pos first]
    rfl
  · rw [if_neg first] at listDue
    exact absurd (due m listDue) first

end

/-- LAPSE is taken at a start that is due, when its port lapses at it. -/
theorem exec_lapse {s : State} (p : Port) (also : List Port) {cause : StartCause} (running : s.part.inReset = false)
    (start : s.part.ref.trackedStart = cause) :
    exec (.lapse ⟨p, also⟩) s = .next { s with
      part := if s.part.lapses p ∧ s.part.startDue cause = true then (s.part.lapsesAhead ⟨p, also⟩).frameStart cause
        else s.part } := by
  simp [exec, execLapse, State.answer, Part.whenRunning, running, start, ← Part.lapseDue_iff]

/-- Settles O17: the part after the lapses ahead, and the start taken from it. -/
theorem lapseFreesTheHolding : Obligations.LapseFreesTheHolding := by
  classical
  intro p also s cause running untracked tracked
  have start : s.part.ref.trackedStart = cause := by
    unfold RefUnit.trackedStart
    split
    case h_1 q h => exact (tracked q h).symm
    case h_2 h => exact (untracked h).symm
  rw [exec_lapse p also running start]
  refine ⟨fun early => ?_, fun due lapses => ?_⟩
  · rw [if_neg]
    rintro ⟨lapses, due⟩
    rcases early with early | locked | short
    · rw [early] at due
      cases due
    · rw [lapses.1] at locked
      cases locked
    · exact short lapses.2
  rw [if_pos ⟨lapses, due⟩]
  have ahead := s.part.lapsesAhead_calm p also
  have dueAhead := (s.part.lapsesAhead_startDue p also cause).trans due
  have timer := fun q => s.part.lapsesAhead_lapseTimer p also q
  have list := fun q => s.part.lapsesAhead_list p also q
  have taken := exec_exchangeFrameStart_taken (s := ⟨s.part.lapsesAhead ⟨p, also⟩, s.pending⟩)
    ((s.part.lapsesAhead_inReset _).trans running) dueAhead
  have blocks := s.part.lapsesAhead_eq ⟨p, also⟩
  have exch := s.part.lapsesAhead_exch ⟨p, also⟩
  have silent := Part.foldl_lapseAhead_silent (p :: also) s.part
  have freed := fun o q => s.part.lapsesAhead_freed p also (o := o) (q := q)
  have cleared : ∀ q, s.part.lapsesFirst p also q → (s.part.lapsesAhead ⟨p, also⟩).lapseTimer q = 2048
      ∧ (s.part.lapsesAhead ⟨p, also⟩).list q = ⟨[], none⟩ := fun q first =>
    ⟨(timer q).trans (if_pos first), (list q).trans (if_pos first)⟩
  have told := fun q r (first : s.part.lapsesFirst p also q) => Part.foldl_lapseAhead_reached (q := r)
    ((s.part.mem_lapseFirst_iff p also q).mpr first).1 first.2
  refine ⟨⟨s.part.lapsesAhead ⟨p, also⟩, s.pending⟩, _, rfl, taken, rfl, rfl, cleared, fun q others => ?kept,
    freed, fun o => s.part.lapsesAhead_kept p also, Part.onlyNoticesJoined_of_notified ahead.2,
    told, fun alone => s.part.lapsesAhead_chans p also lapses alone, fun none => ?silent, blocks, ?counter,
    fun q first => ?standing, fun o q held first => ?free, fun dueLists => ?map⟩
  case kept => exact ⟨(timer q).trans (if_neg others), (list q).trans (if_neg others)⟩
  case silent =>
    exact silent fun q hq hl o => none q o ((s.part.mem_lapseFirst_iff p also q).mp ⟨hq, hl⟩)
  case counter => rw [Part.frameStart_counter, exch]
  case standing =>
    obtain ⟨timer, list⟩ := cleared q first
    dsimp only
    refine ⟨by rw [Part.frameStart_lapseTimer, timer]; simp [countedTimer], ?_⟩
    rw [Part.frameStart_list]
    split
    · rfl
    · exact list
  case free =>
    dsimp only
    rw [Part.frameStart_holder, freed o q held first]
    simp
  case map =>
    dsimp only
    rw [Part.frameStart_exch, Part.lapsesAhead_dueEdits _ _ _ dueLists, Exchange.apply_nil]
    simp only [Part.advanceCounter, exch, and_self]

end Sys2Proof.Machine
end

section
/-! Chapter 5, revertive selection, measurement and the switch (R72, R75, R76, R79): selection in TRACKING, the held
period after a tracked start, and the starts at which the count reaches 64. -/

namespace Sys2Proof.Machine

open Sys2Proof

/-! ### Selection in TRACKING (R79) -/

section
variable {s : Part} {q h : Port}

/-- In TRACKING the list is searched ahead of the tracked port, with the revertive flag ON (R79). -/
theorem Part.found_of_tracking (hm : s.ref.mode = .tracking) (ht : s.ref.tracked = some q) :
    s.found = if s.ref.revertive then
      (s.ref.list.takeWhile fun p => decide (p ≠ q)).find? fun p => decide ((s.port p).lock = .locked)
    else none := by
  have ahead : (fun p => s.ref.tracked != some p) = fun p => decide (p ≠ q) := by
    funext p
    rw [ht, Bool.eq_iff_iff]
    simp only [bne_iff_ne, ne_eq, Option.some.injEq, decide_eq_true_eq]
    exact not_congr eq_comm
  unfold Part.found
  rw [hm]
  dsimp only
  rw [ahead]
  rfl

/-- Nothing found in TRACKING clears the candidate with the flag ON, and changes nothing with it OFF. -/
theorem Part.select_tracking_none (hm : s.ref.mode = .tracking) (hf : s.found = none) :
    s.select.ref = if s.ref.revertive then { s.ref with candidate := none, count := 0 } else s.ref := by
  unfold Part.select
  simp only [hf, hm]
  split <;> simp_all [Part.setRef]

/-- A port found in TRACKING becomes the background candidate. -/
theorem Part.choose_tracking (hm : s.ref.mode = .tracking) :
    (s.choose h).ref = { s.ref with candidate := some h, count := 0 } := by
  simp [Part.choose, hm, Part.setRef]

end

/-- The record before selection at a start. -/
theorem RefUnit.started_eq (r : RefUnit) (cause : StartCause) : r.started cause = { r with
    held := r.heldAfter cause, timer := 0, lastStart := cause, realigning := false } := rfl

/-- Settles O14: selection on the part as a frame start of the tracked port leaves it, by the row of R79's table. -/
theorem revertiveSelectionInTracking : Obligations.RevertiveSelectionInTracking := by
  intro s q running tracking tracked due
  refine ⟨_, exec_exchangeFrameStart_due running due, ?_⟩
  have record := s.part.beforeSelection_ref (.frameStart q)
  have number := s.part.beforeSelection_frameNumber (.frameStart q)
  have notified := s.part.beforeSelection_notified (.frameStart q)
  have inLock := s.part.beforeSelection_inLock (.frameStart q)
  have lock := s.part.beforeSelection_lock (.frameStart q)
  generalize s.part.beforeSelection (.frameStart q) = v at record number notified inLock lock ⊢
  have mode : v.ref.mode = .tracking := by rw [record]; exact tracking
  have revertive : v.ref.revertive = s.part.ref.revertive := by rw [record]; rfl
  have candidate : v.ref.candidate = s.part.ref.candidate := by rw [record]; rfl
  have count : v.ref.count = s.part.ref.count := by rw [record]; rfl
  have held : v.select.ref.held = s.part.ref.heldAfter (.frameStart q) := by
    rw [v.select_timing.2.2.2.2, record]
    rfl
  have found := Part.found_of_tracking mode (show v.ref.tracked = some q by rw [record]; exact tracked)
  have list : v.ref.list = s.part.ref.list := by rw [record]; rfl
  simp only [list, lock] at found
  dsimp only
  rw [held, ← revertive, ← candidate, ← count]
  refine ⟨fun off => ?off, fun on hf => ?none, fun h on hf hc => ?other, fun h on hf hc short => ?candidate,
    fun h on hf hc full => ?qualified⟩
  case off =>
    rw [if_neg (by simp [off])] at found
    rw [Part.select_tracking_none mode found, if_neg (by simp [off]), record, RefUnit.started_eq]
  all_goals rw [if_pos on, hf] at found
  case none => rw [Part.select_tracking_none mode found, if_pos on, record, RefUnit.started_eq]
  case other => rw [Part.select_other found hc, Part.choose_tracking mode, record, RefUnit.started_eq]
  case candidate =>
    rw [Part.select_candidate found hc short, Part.setRef_ref, record, RefUnit.started_eq]
  case qualified =>
    rw [Part.select_qualified found hc full, Part.switchTo, record, ← number, RefUnit.started_eq]
    refine ⟨by rw [Part.raiseReference, Part.raise_eq, Part.setRef, ← tracking], fun p hp masked => ?_⟩
    exact Part.reached_setRef_raiseReference notified ((inLock p).trans hp) masked _ .qualified

/-! ### Measurement (R72, R76) -/

/-- The held period after a frame start of the tracked port (R72). -/
theorem RefUnit.heldAfter_tracked {r : RefUnit} {q : Port} (tracking : r.mode = .tracking)
    (tracked : r.tracked = some q) :
    r.heldAfter (.frameStart q) =
      if r.lastStart = .frameStart q ∧ r.realigning = false ∧ 2028 ≤ r.timer ∧ r.timer ≤ 2068 then some r.timer
      else r.held := by
  unfold RefUnit.heldAfter RefUnit.measures
  refine if_congr ?_ rfl rfl
  simp [tracking, tracked, and_assoc]

/-- Settles O15: whether the start is due, and the measurement that it makes. -/
theorem trackedStartsAreMeasured : Obligations.TrackedStartsAreMeasured := by
  intro s q running tracking tracked locked
  have due : (s.part.ref.realigning = true → 1024 ≤ s.part.ref.timer) → s.part.startDue (.frameStart q) = true :=
    fun late => (s.part.startDue_frameStart_iff q).mpr ⟨tracking, tracked, locked, late⟩
  have held := RefUnit.heldAfter_tracked tracking tracked
  obtain ⟨timer, -, -, -, after⟩ := s.part.frameStart_timing (.frameStart q)
  have counter := s.part.frameStart_counter (.frameStart q)
  rw [held] at after
  refine ⟨fun realigning early => ?early, fun realigning late => ?late, fun settled => ?settled⟩
  case early =>
    refine exec_exchangeFrameStart_early (Bool.eq_false_iff.mpr fun isDue => ?_)
    have late := ((s.part.startDue_frameStart_iff q).mp isDue).2.2.2 realigning
    omega
  case late =>
    refine ⟨_, exec_exchangeFrameStart_taken running (due fun _ => late), ?_⟩
    dsimp only
    exact ⟨after.trans (if_neg fun h => by simp [realigning] at h), timer, counter⟩
  case settled =>
    have unaligned : s.part.ref.realigning = true → 1024 ≤ s.part.ref.timer := fun h => by simp [settled] at h
    refine ⟨_, exec_exchangeFrameStart_taken running (due unaligned), ?_⟩
    dsimp only
    refine ⟨counter, fun last low high => ?_, fun other => ?_⟩
    · exact after.trans (if_pos ⟨last, settled, low, high⟩)
    · refine after.trans (if_neg ?_)
      rintro ⟨last, -, low, high⟩
      rcases other with other | short | long
      · exact other last
      · omega
      · omega

/-! ### The 64th start (R75, R79) -/

/-- The start at which a candidate found is counted for the 64th time. -/
theorem Part.reachesEnd_of_found {s : Part} {mode : RefMode} {h : Port} (hm : s.ref.mode = mode)
    (hc : s.ref.candidate = some h) (hf : s.found = some h) (count : s.ref.count = 63) : s.reachesEnd mode = true := by
  cases mode <;> simp [Part.reachesEnd, hm, hc, hf, count, qualifyEnd]

/-- The record after a start at which the unit switches to its candidate. -/
theorem Part.frameStart_switch {s : Part} {cause : StartCause} {h : Port} (hc : s.ref.candidate = some h)
    (hf : s.found = some h) (count : s.ref.count = 63) :
    (s.frameStart cause).ref = { s.ref with
      mode := .tracking, tracked := some h, candidate := none, count := 0, held := s.ref.heldAfter cause
      timer := 0, realigning := true, lastStart := cause, track := true } := by
  rw [Part.frameStart_eq_select]
  have record := s.beforeSelection_ref cause
  have lock := s.beforeSelection_lock cause
  generalize s.beforeSelection cause = v at record lock ⊢
  have found : v.found = some h := by
    rw [← hf]
    simp only [Part.found, Part.firstLocked, record, lock]
    rfl
  rw [Part.select_qualified found (by rw [record]; exact hc) (by rw [record]; exact congrArg (· + 1) count), Part.switchTo,
    record, RefUnit.started_eq]
  rfl

/-- Settles O16: the start that each of the two commands is, and the switch at it. -/
theorem theSixtyFourthStartSwitches : Obligations.TheSixtyFourthStartSwitches := by
  intro s h running candidate count
  refine ⟨fun qualify first due => ?_, fun q tracking tracked revertive first due => ?_⟩
  · have found : s.part.found = some h := by
      rw [Part.found_of_not_tracking (by simp [qualify]), first]
    have switched := Part.frameStart_switch (cause := .localTimer) candidate found count
    refine ⟨_, ?_, exec_exchangeFrameStart_taken running due, ?_⟩
    · simp only [exec, execQualified, State.answer, Part.whenRunning, running, Bool.false_eq_true, if_false,
        Part.reachesEnd_of_found qualify candidate found count, due, Bool.and_self, if_true]
    · dsimp only
      rw [switched]
      rfl
  · have found : s.part.found = some h := by
      rw [Part.found_of_tracking tracking tracked, if_pos revertive, first]
    have switched := Part.frameStart_switch (cause := .frameStart q) candidate found count
    have start : s.part.ref.trackedStart = .frameStart q := by simp [RefUnit.trackedStart, tracked]
    refine ⟨_, ?_, exec_exchangeFrameStart_taken running due, ?_⟩
    · simp only [exec, execRevertiveSwitch, State.answer, Part.whenRunning, running, Bool.false_eq_true, if_false,
        Part.reachesEnd_of_found tracking candidate found count, start, due, Bool.and_self, if_true]
    · dsimp only
      rw [switched, ← tracking]

end Sys2Proof.Machine
end

section
/-! Chapter 6, acquisition (R90, R91, R93, R96, R99): the clock found and lost out of lock, the pulses, and the entry
to LOCKED. -/

namespace Sys2Proof.Machine

open Sys2Proof

/-! ### PORT_STATE (R99) -/

section
variable (s : Part) (p : Port)

/-- A PORT_STATE of port `p` goes to the other ports alone, so the lock state of `p` makes no difference to it. -/
theorem Part.raise_portState_chans {s t : Part} {p : Port} (chans : t.chans = s.chans)
    (others : ∀ q, q ≠ p → t.inLock q = s.inLock q) (before after : LockState) (cause : PortCause) (losses : Byte)
    (frame : Half) :
    (t.raise (.portState p before after cause losses frame)).chans
      = (s.raise (.portState p before after cause losses frame)).chans := by
  refine Bank.ext_get fun q => ?_
  show (t.raise _).chan q = (s.raise _).chan q
  have same : t.chan q = s.chan q := by rw [Part.chan, Part.chan, chans]
  have admits : t.admits (.portState p before after cause losses frame) q
      = s.admits (.portState p before after cause losses frame) q := by
    by_cases own : q = p
    · subst own
      simp [Part.admits, Notice.maskBit, Notice.concerned]
    · simp only [Part.admits, others q own, same]
      rfl
  rw [Part.raise_chan, Part.raise_chan, admits, same]

/-- A PORT_STATE leaves the channel of its own port. -/
theorem Part.raise_portState_chan_self (before after : LockState) (cause : PortCause) (losses : Byte)
    (frame : Half) : (s.raise (.portState p before after cause losses frame)).chan p = s.chan p :=
  Part.raise_chan_not_admitted (by simp [Part.admits, Notice.maskBit, Notice.concerned])

theorem Part.modifyPort_eq_set (f : PortUnit → PortUnit) :
    s.modifyPort p f = { s with ports := s.ports.set p (f (s.port p)) } := rfl

/-- A change of one port unit, with its PORT_STATE. -/
theorem Part.modifyPort_raisePortState (f : PortUnit → PortUnit) (before : LockState) (cause : PortCause) :
    (s.modifyPort p f).raisePortState p before cause = { s with
      ports := s.ports.set p (f (s.port p))
      chans := (s.raise (.portState p before (f (s.port p)).lock cause (f (s.port p)).counters.lockLosses
        s.exch.counter)).chans } := by
  have chans := Part.raise_portState_chans (s := s) (t := s.modifyPort p f) (p := p) rfl
    (fun q hq => by rw [Part.inLock, Part.modifyPort_port_ne s f hq]; rfl) before (f (s.port p)).lock cause
    (f (s.port p)).counters.lockLosses s.exch.counter
  rw [Part.raisePortState, Part.modifyPort_port_self, ← chans]
  rfl

end

/-! ### DARK and SEEK (R90) -/

/-- A command of a part that runs. -/
theorem State.answer_running {s : State} (running : s.part.inReset = false) (f : Part → Part) :
    s.answer (s.part.whenRunning f) = .next { s with part := f s.part } := by
  simp [State.answer, Part.whenRunning, running]

theorem exec_clockFound {s : State} {p : Port} (running : s.part.inReset = false)
    (dark : (s.part.port p).lock = .dark) :
    exec (.clockFound p) s = .next { s with part := (s.part.modifyPort p fun u =>
      u.outOfLock .seek (.pattern u.dout.atEnd)).raisePortState p .dark .clockFound } := by
  refine (State.answer_running running _).trans ?_
  rw [if_pos dark]

/-- The clock watch at a port in SEEK or CONFIRM. -/
theorem exec_clockWatchExpiry_outOfLock {s : State} {p : Port} (sent : Nat) (running : s.part.inReset = false)
    (l : (s.part.port p).lock = .seek ∨ ∃ n, (s.part.port p).lock = .confirm n) :
    exec (.clockWatchExpiry ⟨p, sent⟩) s = .next { s with part := (s.part.modifyPort p fun u =>
      u.outOfLock .dark (.held (s.part.doutLevel p sent))).raisePortState p (s.part.port p).lock .clockLost } := by
  refine (State.answer_running running _).trans ?_
  rcases l with l | ⟨n, l⟩ <;> simp only [l]

/-- Settles O18: the port unit that each of the two changes leaves, with its PORT_STATE. -/
theorem clockFoundAndLostOutOfLock : Obligations.ClockFoundAndLostOutOfLock := by
  intro p sent s running
  refine ⟨fun dark => ⟨_, exec_clockFound running dark, rfl, ?_⟩,
    fun l => ⟨_, exec_clockWatchExpiry_outOfLock sent running l, rfl, ?_⟩⟩
  all_goals
    dsimp only
    rw [Part.modifyPort_raisePortState]
    simp only [Part.port, Bank.get_set_self, PortUnit.outOfLock]
  · refine ⟨trivial, trivial, fun high => by rw [high]; rfl, fun level held => by rw [held]; rfl, trivial, trivial⟩
  · refine ⟨trivial, trivial, fun before pattern none => ?_, fun before n pattern some => ?_, trivial, trivial⟩
    · simp only [Part.doutLevel, Part.port, pattern, none, Dout.level_zero_pattern]
    · simp only [Part.doutLevel, Part.port, pattern, some, Dout.level_pattern]

/-! ### Pulses (R91, R92) -/

theorem exec_framePulse {s : State} (p : Port) (place : PulsePlace) (deferStart : Bool)
    (running : s.part.inReset = false) :
    exec (.framePulse p place deferStart) s = .next { s with part := s.part.pulse p place deferStart } :=
  State.answer_running running _

section
variable {s : Part} {p : Port} (sent : Nat) (deferStart : Bool) {position : Nat}

theorem Part.pulse_seek (l : (s.port p).lock = .seek) (position : Nat) :
    s.pulse p ⟨position, sent⟩ deferStart = s.confirming p 0 := by
  simp only [Part.pulse, l]

/-- The first good spacing in CONFIRM. -/
theorem Part.pulse_confirms (l : (s.port p).lock = .confirm 0) :
    s.pulse p ⟨(s.port p).profile.bits, sent⟩ deferStart = s.confirming p 1 := by
  simp [Part.pulse, l]

/-- The second good spacing. -/
theorem Part.pulse_locks (l : (s.port p).lock = .confirm 1) :
    s.pulse p ⟨(s.port p).profile.bits, sent⟩ deferStart = s.enterLock p sent deferStart := by
  simp [Part.pulse, l]

variable (low : 1 ≤ position) (high : position < (s.port p).profile.bits)
include low high

theorem Part.pulse_restarts {n : Nat} (l : (s.port p).lock = .confirm n) :
    s.pulse p ⟨position, sent⟩ deferStart = s.confirming p 0 := by
  simp [Part.pulse, l, low, high, Nat.ne_of_lt high]

theorem Part.pulse_misplaced (l : s.inLock p = true) :
    s.pulse p ⟨position, sent⟩ deferStart
      = s.modifyPort p fun u => { u with misplaced := true, position := position } := by
  rcases (LockState.inLock_iff _).mp l with l | ⟨n, l⟩ <;> simp [Part.pulse, l, low, high]

end

/-- Settles O20: each pulse, by the lock state of its port. -/
theorem pulsesAcquireTheFrame : Obligations.PulsesAcquireTheFrame := by
  intro p position sent deferStart s running
  have inside : 1 ≤ position → position ≤ 8 * (s.part.port p).profile.slots - 1 →
      position < (s.part.port p).profile.bits := fun low high => by
    unfold Profile.bits
    omega
  refine ⟨fun seek => ?seek, fun confirm at_end => ?confirms, fun n confirm low high => ?restarts,
    fun n confirm => ?missing, fun locked low high => ?misplaced⟩
  case missing =>
    refine (State.answer_running running _).trans ?_
    simp only [confirm, Part.modifyPort_eq_set]
  all_goals rw [exec_framePulse p _ deferStart running]
  case seek => rw [Part.pulse_seek sent deferStart seek position]; rfl
  case confirms =>
    subst at_end
    exact congrArg (fun part => Host.Outcome.next { s with part := part }) (Part.pulse_confirms sent deferStart confirm)
  case restarts => rw [Part.pulse_restarts sent deferStart low (inside low high) confirm]; rfl
  case misplaced => rw [Part.pulse_misplaced sent deferStart low (inside low high) locked]; rfl

/-! ### The entry to LOCKED (R93, R94, R96) -/

section
variable {s : Part} {p : Port}

theorem Part.readOutbound_unprimed (h : (s.outStores.get p).primed = false) : s.readOutbound p = s := by
  have same := (Store.read_unprimed h).2
  have repeats : (s.outStores.get p).readRepeats = false := by simp [Store.readRepeats, h]
  simp only [Part.readOutbound, same, repeats, Bank.set_get_self, Bool.false_eq_true, if_false]

/-- An outbound frame start at an unprimed store and an empty channel: the fill byte, with 00H in the control slot. -/
theorem Part.outboundStart_idle (unprimed : (s.outStores.get p).primed = false) (free : (s.chan p).sender = none)
    (replies : (s.chan p).replies = []) (notices : (s.chan p).notices = []) :
    s.outboundStart p = s.modifyPort p fun u => { u with
      dout := .frame u.dout.atEnd ((List.replicate u.profile.slots u.profile.fill).set u.profile.control 0) } := by
  have placed : (s.chan p).placed = 0 := by simp [ControlChannel.placed, free, replies, notices]
  unfold Part.outboundStart
  dsimp only
  rw [Part.readOutbound_unprimed unprimed, (Store.read_unprimed unprimed).1, placed]
  exact Part.place_idle _ free replies notices

end

/-- The part at an entry of port `p` to LOCKED, before its outbound frame start (R93, R121). -/
def Part.entered (s : Part) (p : Port) (sent : Nat) (deferStart : Bool) : Part :=
  { s with
    ports := s.ports.set p { s.port p with
      lock := .locked, hasLocked := true, position := 0, misplaced := false, received := []
      dout := .held (s.doutLevel p sent), owing := if deferStart then .start else .nothing }
    claims := { s.claims with lapse := s.claims.lapse.set p 0 }
    chans := (s.raise (.portState p (s.port p).lock .locked .frameFound (s.port p).counters.lockLosses
      s.exch.counter)).chans }

theorem Part.enterLock_eq (s : Part) (p : Port) (sent : Nat) (deferStart : Bool) :
    s.enterLock p sent deferStart =
      if deferStart then s.entered p sent deferStart else (s.entered p sent deferStart).outboundStart p := by
  have chans := Part.raise_portState_chans (s := s) (t := s.setLapseTimer p 0) (p := p) rfl (fun _ _ => rfl)
    (s.port p).lock .locked .frameFound (s.port p).counters.lockLosses s.exch.counter
  have entered : ((s.setLapseTimer p 0).modifyPort p fun u => { u with
      lock := .locked, hasLocked := true, position := 0, misplaced := false, received := []
      dout := .held (s.doutLevel p sent)
      owing := if deferStart then .start else .nothing }).raisePortState p (s.port p).lock .frameFound
        = s.entered p sent deferStart := by
    rw [Part.modifyPort_raisePortState, Part.entered, ← chans]
    rfl
  rw [← entered]
  rfl

/-- Settles O21: the entry to LOCKED, and the outbound frame start that finds nothing to send. -/
theorem secondGoodSpacingLocks : Obligations.SecondGoodSpacingLocks := by
  intro p sent deferStart s running confirm unprimed free replies notices
  dsimp only
  have locks := Part.pulse_locks sent deferStart confirm
  rw [Profile.bits] at locks
  rw [exec_framePulse p _ deferStart running, locks, Part.enterLock_eq]
  cases deferStart with
  | true =>
    rw [if_pos rfl, Part.entered, confirm]
    rfl
  | false =>
    have chan : (s.part.entered p sent false).chan p = s.part.chan p :=
      s.part.raise_portState_chan_self p _ _ _ _ _
    have port : (s.part.entered p sent false).port p = { s.part.port p with
        lock := .locked, hasLocked := true, position := 0, misplaced := false, received := []
        dout := .held (s.part.doutLevel p sent), owing := .nothing } := Bank.get_set_self _ _ _
    rw [if_neg (by decide), Part.outboundStart_idle (s := s.part.entered p sent false) unprimed
      (by rw [chan, free]) (by rw [chan, replies]) (by rw [chan, notices]), Part.modifyPort_eq_set, port, Part.entered, confirm]
    simp only [Bank.set_set]
    rfl

end Sys2Proof.Machine
end

section
/-! Chapter 6, leaving lock (R74, R78, R90, R92, R97, R99, R102, R120): the part that each way of leaving lock leaves
to the reference unit, and what the reference unit makes of it. -/

namespace Sys2Proof.Machine

open Sys2Proof

/-! ### The part as a leaving of lock leaves it (R97, R120) -/

/-- Port `p` out of lock with these counters: its stores are flushed and its channel is reset but for the mask. -/
def Part.dropped (s : Part) (p : Port) (dest : LockState) (dout : Dout) (counts : Counters) : Part :=
  { s with
    ports := s.ports.set p { (s.port p).outOfLock dest dout with counters := counts }
    inStores := s.inStores.set p (.flushed (s.port p).profile.depth)
    outStores := s.outStores.set p (.flushed (s.port p).profile.depth)
    chans := s.chans.set p (s.chan p).left }

/-- The part after a leaving of lock, its pending action in effect and PORT_STATE raised: what the reference unit then
hears of. -/
def Part.leftBy (s : Part) (p : Port) (dest : LockState) (dout : Dout) (cause : PortCause) (counts : Counters) :
    Part :=
  ((s.dropped p dest dout counts).actionEffect p).raisePortState p (s.port p).lock cause

/-- The counters after a leaving that is a lock loss or not (R97). -/
def Counters.left (c : Counters) (counted : Bool) : Counters :=
  if counted then { c with lockLosses := c.lockLosses + 1 } else c

section
variable (s : Part) (p : Port) (dest : LockState) (dout : Dout)

theorem Part.dropLock_eq (counted : Bool) :
    s.dropLock p dest dout counted = s.dropped p dest dout ((s.port p).counters.left counted) := by
  simp only [Part.dropLock, Part.flushStores, Part.modifyPort_port_self]
  rfl

theorem Part.count_dropped (f : Counters → Counters) (counts : Counters) :
    (s.count p f).dropped p dest dout counts = s.dropped p dest dout counts := by
  have port : (s.count p f).port p = { s.port p with counters := f (s.port p).counters } := by
    rw [Part.count_port, if_pos rfl]
  have ports : ∀ u, (s.count p f).ports.set p u = s.ports.set p u := fun u => Bank.set_set ..
  simp only [Part.dropped, port, ports, PortUnit.outOfLock]
  rfl

variable (cause : PortCause) (counted : Bool)

theorem Part.leaveLock_eq : s.leaveLock p dest dout cause counted =
    (s.leftBy p dest dout cause ((s.port p).counters.left counted)).lockChanged p (s.port p).lock dest := by
  unfold Part.leaveLock Part.leftBy
  rw [Part.dropLock_eq]

/-- A leaving after a count at the port. -/
theorem Part.count_leaveLock (f : Counters → Counters) : (s.count p f).leaveLock p dest dout cause counted =
    (s.leftBy p dest dout cause ((f (s.port p).counters).left counted)).lockChanged p (s.port p).lock dest := by
  have port : (s.count p f).port p = { s.port p with counters := f (s.port p).counters } := by
    rw [Part.count_port, if_pos rfl]
  rw [Part.leaveLock_eq, Part.leftBy, Part.count_dropped, port]
  rfl

end

/-! ### What the reference unit leaves alone -/

section
variable (s : Part)

/-- A loss of the reference moves the counters of the port units at most. -/
theorem Part.loseReference_port (reason : RefReason) (q : Port) :
    (s.loseReference reason).port q = { s.port q with counters := ((s.loseReference reason).port q).counters } := by
  unfold Part.loseReference
  dsimp only
  split
  · rw [Part.frameStart_port]
    rfl
  · rfl

theorem Part.lockChanged_port (p q : Port) (before after : LockState) :
    (s.lockChanged p before after).port q
      = { s.port q with counters := ((s.lockChanged p before after).port q).counters } := by
  unfold Part.lockChanged
  split
  · rw [Part.clearCandidate_port]
  · split
    · exact s.loseReference_port _ q
    · rfl

theorem Part.lockChanged_calm (p : Port) (before after : LockState) : s.calm (s.lockChanged p before after) :=
  ⟨fun q => by rw [Part.inLock, Part.lockChanged_port]; rfl, s.lockChanged_notified p before after⟩

/-- An effect of the pending action moves the action and the profile of its port alone. -/
theorem Part.actionEffect_port (p q : Port) :
    (s.actionEffect p).port q =
      if q = p then { s.port p with action := none, profile := ((s.actionEffect p).port p).profile }
      else s.port q := by
  unfold Part.actionEffect
  split
  case h_1 none =>
    split
    case isTrue own => rw [own, ← none]
    case isFalse => rfl
  case h_2 => simp only [Part.profileEffect_port, if_true]
  case h_3 =>
    show (s.modifyPort p _).port q = if q = p then { s.port p with
      action := none, profile := ((s.modifyPort p fun u => { u with action := none }).port p).profile } else s.port q
    rw [Part.modifyPort_port, Part.modifyPort_port_self]

theorem Part.actionEffect_calm (p : Port) : s.calm (s.actionEffect p) :=
  ⟨fun q => by rw [Part.inLock, Part.actionEffect_lock]; rfl, s.actionEffect_notified p⟩

/-- A channel of a port out of lock is not told anything. -/
theorem Part.calm.chan_outOfLock {s t : Part} (h : s.calm t) {p : Port} (out : s.inLock p = false) :
    t.chan p = s.chan p := by
  obtain ⟨ns, e, none⟩ := h.2 p
  rw [e, none out]
  rfl

end

/-! ### The records after a leaving of lock -/

section
variable (s : Part) (p : Port) (dest : LockState) (dout : Dout) (counts : Counters)

theorem Part.dropped_port (q : Port) : (s.dropped p dest dout counts).port q =
    if q = p then { (s.port p).outOfLock dest dout with counters := counts } else s.port q := Bank.get_set ..

theorem Part.dropped_port_self :
    (s.dropped p dest dout counts).port p = { (s.port p).outOfLock dest dout with counters := counts } := by
  rw [Part.dropped_port, if_pos rfl]

theorem Part.dropped_chan_self : (s.dropped p dest dout counts).chan p = (s.chan p).left := Bank.get_set_self ..

variable {q : Port} (hq : q ≠ p)
include hq

theorem Part.dropped_chan_ne : (s.dropped p dest dout counts).chan q = s.chan q := Bank.get_set_ne _ _ hq

theorem Part.dropped_inLock_ne : (s.dropped p dest dout counts).inLock q = s.inLock q := by
  rw [Part.inLock, Part.dropped_port, if_neg hq]
  rfl

/-- What reaches another port since the leaving has reached it since before. -/
theorem Part.reached_of_dropped {t : Part} {n : Notice} (h : (s.dropped p dest dout counts).reached t q n) :
    s.reached t q n := by
  unfold Part.reached at h ⊢
  rwa [Part.dropped_chan_ne _ _ _ _ _ hq] at h

end

section
variable (s : Part) (p : Port) (dest : LockState) (dout : Dout) (cause : PortCause) (counts : Counters)

theorem Part.dropped_to_leftBy : (s.dropped p dest dout counts).calm (s.leftBy p dest dout cause counts) :=
  (Part.actionEffect_calm _ p).trans (Part.calm_raise _ _)

theorem Part.leftBy_port_self : (s.leftBy p dest dout cause counts).port p =
    { (s.port p).outOfLock dest dout with
      counters := counts, action := none, profile := ((s.leftBy p dest dout cause counts).port p).profile } := by
  show ((s.dropped p dest dout counts).actionEffect p).port p = { (s.port p).outOfLock dest dout with
    counters := counts, action := none, profile := (((s.dropped p dest dout counts).actionEffect p).port p).profile }
  rw [Part.actionEffect_port, if_pos rfl, Part.dropped_port_self]

theorem Part.leftBy_port_ne {q : Port} (hq : q ≠ p) : (s.leftBy p dest dout cause counts).port q = s.port q := by
  show ((s.dropped p dest dout counts).actionEffect p).port q = s.port q
  rw [Part.actionEffect_port, if_neg hq, Part.dropped_port, if_neg hq]

/-- The blocks that no leaving of lock moves, and the stores. -/
theorem Part.leftBy_blocks :
    (s.leftBy p dest dout cause counts).inReset = s.inReset
      ∧ (s.leftBy p dest dout cause counts).inStores = s.inStores.set p (.flushed (s.port p).profile.depth)
      ∧ (s.leftBy p dest dout cause counts).outStores = s.outStores.set p (.flushed (s.port p).profile.depth)
      ∧ (s.leftBy p dest dout cause counts).ref = s.ref ∧ (s.leftBy p dest dout cause counts).play = s.play
      ∧ (s.leftBy p dest dout cause counts).mem = s.mem
      ∧ (s.leftBy p dest dout cause counts).freeCount = s.freeCount := by
  rw [Part.leftBy, Part.actionEffect_eq]
  exact ⟨rfl, rfl, rfl, rfl, rfl, rfl, rfl⟩

/-- No action in effect moves the frame counter or the generation (R16). -/
theorem Part.leftBy_counter :
    (s.leftBy p dest dout cause counts).exch.counter = s.exch.counter
      ∧ (s.leftBy p dest dout cause counts).exch.generation = s.exch.generation := by
  show ((s.dropped p dest dout counts).actionEffect p).exch.counter = s.exch.counter
    ∧ ((s.dropped p dest dout counts).actionEffect p).exch.generation = s.exch.generation
  unfold Part.actionEffect
  split
  · exact ⟨rfl, rfl⟩
  · rw [Part.profileEffect_eq]
    exact ⟨rfl, rfl⟩
  · exact ⟨rfl, rfl⟩

variable (out : dest.inLock = false)
include out

theorem Part.dropped_outOfLock : (s.dropped p dest dout counts).inLock p = false := by
  rw [Part.inLock, Part.dropped_port_self]
  exact out

theorem Part.leftBy_outOfLock : (s.leftBy p dest dout cause counts).inLock p = false :=
  ((s.dropped_to_leftBy p dest dout cause counts).1 p).trans (s.dropped_outOfLock p dest dout counts out)

theorem Part.leftBy_chan_self : (s.leftBy p dest dout cause counts).chan p = (s.chan p).left := by
  rw [(s.dropped_to_leftBy p dest dout cause counts).chan_outOfLock (s.dropped_outOfLock p dest dout counts out),
    Part.dropped_chan_self]

omit out in
/-- PORT_STATE reaches the other ports in lock whose masks include it (R99). -/
theorem Part.leftBy_reached {q : Port} (hq : q ≠ p) (locked : s.inLock q = true)
    (masked : (s.chan q).mask.getLsbD 0 = true) :
    s.reached (s.leftBy p dest dout cause counts) q
      (.portState p (s.port p).lock dest cause counts.lockLosses s.exch.counter) := by
  have effect := (s.dropped p dest dout counts).actionEffect_calm p
  have port := (s.dropped p dest dout counts).actionEffect_port p p
  have number := (s.leftBy_counter p dest dout cause counts).1
  rw [if_pos rfl, Part.dropped_port_self] at port
  refine Part.reached_of_dropped s p dest dout counts hq (Part.reached_between effect (v := _) ?_ (Part.calm_refl _))
  rw [Part.leftBy] at number ⊢
  generalize (s.dropped p dest dout counts).actionEffect p = e at effect port number ⊢
  have raised : e.raisePortState p (s.port p).lock cause
      = e.raise (.portState p (s.port p).lock dest cause counts.lockLosses s.exch.counter) := by
    rw [← number, Part.raisePortState, port]
    rfl
  rw [raised]
  refine Part.reached_raise ((Part.admits_broadcast (bit := 0) rfl).mpr ⟨?_, ?_, ?_⟩)
  · rw [effect.1 q, Part.dropped_inLock_ne _ _ _ _ _ hq, locked]
  · simp [Notice.concerned, hq.symm]
  · rw [effect.mask q, Part.dropped_chan_ne _ _ _ _ _ hq, masked]

end

/-- With no pending action a leaving of lock moves the port, its stores and the channels alone. -/
theorem Part.leftBy_plain {s : Part} {p : Port} (dest : LockState) (dout : Dout) (cause : PortCause)
    (counts : Counters) (none : (s.port p).action = none) :
    s.leftBy p dest dout cause counts = { s.dropped p dest dout counts with
      chans := ((s.dropped p dest dout counts).raise (.portState p (s.port p).lock dest cause counts.lockLosses
        s.exch.counter)).chans } := by
  have port := s.dropped_port_self p dest dout counts
  have effect : (s.dropped p dest dout counts).actionEffect p = s.dropped p dest dout counts := by
    unfold Part.actionEffect
    split
    · rfl
    · simp_all [PortUnit.outOfLock]
    · simp_all [PortUnit.outOfLock]
  rw [Part.leftBy, effect, Part.raisePortState, port]
  rfl

/-- Another port's channel after a PORT_STATE of port `p`, whatever the leaving did to `p`. -/
theorem Part.raise_dropped_chan (s : Part) (p : Port) (dest : LockState) (dout : Dout) (counts : Counters) {q : Port}
    (hq : q ≠ p) (before : LockState) (cause : PortCause) (losses : Byte) (frame : Half) :
    ((s.dropped p dest dout counts).raise (.portState p before dest cause losses frame)).chan q
      = (s.raise (.portState p before dest cause losses frame)).chan q := by
  have chan := s.dropped_chan_ne p dest dout counts hq
  have admits : (s.dropped p dest dout counts).admits (.portState p before dest cause losses frame) q
      = s.admits (.portState p before dest cause losses frame) q := by
    simp only [Part.admits, s.dropped_inLock_ne p dest dout counts hq, chan]
    rfl
  rw [Part.raise_chan, Part.raise_chan, chan, admits]

/-! ### The commands at which a port leaves lock (R90, R92, R102) -/

section
variable {s : State} {p : Port}

/-- The clock watch at a port in lock. -/
theorem exec_clockWatchExpiry_leaves (sent : Nat) (running : s.part.inReset = false) (locked : s.part.inLock p = true) :
    exec (.clockWatchExpiry ⟨p, sent⟩) s = .next { s with part := (s.part.leftBy p .dark
      (.held (s.part.doutLevel p sent)) .clockLost { (s.part.port p).counters with
        lockLosses := (s.part.port p).counters.lockLosses + 1 }).lockChanged p (s.part.port p).lock .dark } := by
  refine (State.answer_running running _).trans ?_
  have left := s.part.leaveLock_eq p .dark (.held (s.part.doutLevel p sent)) .clockLost true
  rcases (LockState.inLock_iff _).mp locked with l | ⟨n, l⟩ <;> simp only [l] at left ⊢ <;> rw [left] <;> rfl

/-- The frame that ends is good or not, where no outbound share was taken ahead (R92). -/
theorem PortUnit.goodEnd_iff {u : PortUnit} (pulse : Bool) (owing : u.owing ≠ .completion) :
    u.goodEnd pulse = true ↔ u.endsWell pulse := by
  simp [PortUnit.goodEnd, owing]

/-- After a leaving of lock no outbound share is owing. -/
theorem Part.settleStart_left (v : Part) {dest : LockState} {dout : Dout} {cause : PortCause} {counts : Counters}
    (before : LockState) :
    ((v.leftBy p dest dout cause counts).lockChanged p before dest).settleStart p
      = (v.leftBy p dest dout cause counts).lockChanged p before dest := by
  have nothing : (((v.leftBy p dest dout cause counts).lockChanged p before dest).port p).owing = .nothing := by
    rw [Part.lockChanged_port, Part.leftBy_port_self]
    rfl
  rw [Part.settleStart, if_neg (by rw [nothing]; decide)]

/-- A frame end of a port with no share owing, at which it leaves lock as `leaves` says. -/
theorem exec_frameEnd_leaves {pulse : Bool} {rest : List Byte} {share : FrameShare} (running : s.part.inReset = false)
    (locked : s.part.inLock p = true) (owing : (s.part.port p).owing = .nothing) (taken : share ≠ .start)
    (ends : (s.part.port p).startsFrame pulse = false) {dest : LockState} {dout : Dout} {cause : PortCause}
    {counts : Counters}
    (leaves : s.part.endFrame p pulse rest
      = (s.part.leftBy p dest dout cause counts).lockChanged p (s.part.port p).lock dest) :
    exec (.frameEnd p pulse rest share) s = .next { s with
      part := (s.part.leftBy p dest dout cause counts).lockChanged p (s.part.port p).lock dest } := by
  have settled : s.part.settleStart p = s.part := by rw [Part.settleStart, if_neg (by rw [owing]; decide)]
  have completion : s.part.completionShare p pulse rest
      = (s.part.leftBy p dest dout cause counts).lockChanged p (s.part.port p).lock dest := by
    unfold Part.completionShare
    dsimp only
    rw [settled, leaves, if_neg (by simp [ends])]
  refine (State.answer_running running _).trans ?_
  rw [if_pos locked]
  cases share with
  | start => exact absurd rfl taken
  | completion => dsimp only; rw [completion]
  | whole =>
    dsimp only
    rw [Part.wholeEnd, completion, Part.settleStart_left]

/-- A bad end in COAST(3) (R92). -/
theorem Part.endFrame_fourthBad {s : Part} {p : Port} {pulse : Bool} (rest : List Byte)
    (owing : (s.port p).owing = .nothing) (last : (s.port p).lock = .coast 3) (bad : ¬ (s.port p).endsWell pulse) :
    (s.port p).startsFrame pulse = false ∧ s.endFrame p pulse rest =
      (s.leftBy p .seek (.pattern (s.port p).dout.atEnd) .framingLost { (s.port p).counters with
        badFrames := (s.port p).counters.badFrames + 1
        lockLosses := (s.port p).counters.lockLosses + 1 }).lockChanged p (s.port p).lock .seek := by
  have good : (s.port p).goodEnd pulse = false :=
    Bool.eq_false_iff.mpr (mt (PortUnit.goodEnd_iff pulse (by rw [owing]; decide)).mp bad)
  have fourth : (s.port p).fourthBad false = true := by simp [PortUnit.fourthBad, last, LockState.lastCoast]
  refine ⟨by simp [PortUnit.startsFrame, good, fourth], ?_⟩
  unfold Part.endFrame
  dsimp only
  rw [good, if_pos fourth, Part.judged, if_neg (by decide), Part.count_leaveLock]
  rfl

/-- The reply's frame end of a pending action, good or bad (R92, R102). -/
theorem Part.endFrame_replyEnd {s : Part} {p : Port} {pulse : Bool} (rest : List Byte)
    (owing : (s.port p).owing = .nothing) (due : (s.port p).actionDue = true) (some : (s.port p).action ≠ none)
    (stays : (s.port p).endsWell pulse ∨ (s.port p).lock = .locked ∨ (s.port p).lock = .coast 1
      ∨ (s.port p).lock = .coast 2) :
    (s.port p).startsFrame pulse = false ∧ s.endFrame p pulse rest =
      (s.leftBy p .seek (.pattern (s.port p).dout.atEnd) (actionCause (s.port p).action) { (s.port p).counters with
        badFrames := (s.port p).counters.badFrames + (if (s.port p).endsWell pulse then 0 else 1) }).lockChanged p
          (s.port p).lock .seek := by
  have good := PortUnit.goodEnd_iff (u := s.port p) pulse (by rw [owing]; decide)
  have reply : (s.port p).replyEnd = true := by
    simp [PortUnit.replyEnd, due, owing, Option.isSome_iff_ne_none.mpr some]
  have notFourth : (s.port p).fourthBad ((s.port p).goodEnd pulse) = false := by
    rcases stays with well | l | l | l
    · simp [PortUnit.fourthBad, good.mpr well]
    all_goals simp [PortUnit.fourthBad, l, LockState.lastCoast]
  refine ⟨by simp [PortUnit.startsFrame, reply], ?_⟩
  unfold Part.endFrame
  dsimp only
  rw [if_neg (by simp [notFourth]), if_pos reply]
  by_cases well : (s.port p).endsWell pulse
  · rw [Part.judged, if_pos (good.mpr well), Part.leaveLock_eq, if_pos well, add_zero]
    rfl
  · rw [Part.judged, if_neg (mt good.mp well), Part.count_leaveLock, if_neg well]
    rfl

/-- Every way of leaving lock, carried through `exec`. -/
theorem Part.leavesBy.exec {c : Instr} {dest : LockState} {cause : PortCause} {counts : Counters}
    (h : s.part.leavesBy p c dest cause counts) (running : s.part.inReset = false) (locked : s.part.inLock p = true) :
    dest.inLock = false ∧ ∃ dout : Dout, (dest = .seek → dout = .pattern (s.part.port p).dout.atEnd)
      ∧ (∀ sent, c = .clockWatchExpiry ⟨p, sent⟩ → dout = .held (s.part.doutLevel p sent))
      ∧ Sys2Proof.Machine.exec c s = .next { s with
        part := (s.part.leftBy p dest dout cause counts).lockChanged p (s.part.port p).lock dest } := by
  rcases h with ⟨sent, rfl, rfl, rfl, rfl⟩ | ⟨pulse, rest, share, rfl, taken, owing, rfl, way⟩
  · refine ⟨rfl, _, nofun, fun sent' same => ?_, exec_clockWatchExpiry_leaves sent running locked⟩
    cases same
    rfl
  · refine ⟨rfl, _, fun _ => rfl, nofun, ?_⟩
    rcases way with ⟨last, bad, rfl, rfl⟩ | ⟨due, stays, effect, rfl⟩
    · obtain ⟨ends, leaves⟩ := Part.endFrame_fourthBad rest owing last bad
      exact exec_frameEnd_leaves running locked owing taken ends leaves
    · have some : (s.part.port p).action ≠ none := by
        rcases effect with ⟨some, -⟩ | ⟨n, k, some, -⟩ <;> simp [some]
      obtain ⟨ends, leaves⟩ := Part.endFrame_replyEnd rest owing due some stays
      have named : actionCause (s.part.port p).action = cause := by
        rcases effect with ⟨some, rfl⟩ | ⟨n, k, some, rfl⟩ <;> rw [some] <;> rfl
      rw [named] at leaves
      exact exec_frameEnd_leaves running locked owing taken ends leaves

end

end Sys2Proof.Machine
end

section
/-! Chapters 5 and 6, lock losses (R63, R74, R78, R84, R85, R97, R99, R120): a port with no pending action that leaves
lock, and a leaving of lock at a port of any role for the reference unit. -/

namespace Sys2Proof.Machine

open Sys2Proof

/-- After a leaving of lock with no pending action. -/
theorem Part.leftBy_frame {s : Part} {p : Port} (dest : LockState) (dout : Dout) (cause : PortCause)
    (counts : Counters) (none : (s.port p).action = none) :
    (s.leftBy p dest dout cause counts).port p
        = { s.port p with
          lock := dest, dout := dout
          position := 0, received := [], actionDue := false, misplaced := false, owing := .nothing
          counters := counts }
      ∧ (∀ q, q ≠ p → (s.leftBy p dest dout cause counts).chan q =
          (s.raise (.portState p (s.port p).lock dest cause counts.lockLosses s.exch.counter)).chan q)
      ∧ s.leftBy p dest dout cause counts = { s with
          ports := s.ports.set p ((s.leftBy p dest dout cause counts).port p)
          inStores := (s.leftBy p dest dout cause counts).inStores
          outStores := (s.leftBy p dest dout cause counts).outStores
          chans := (s.leftBy p dest dout cause counts).chans } := by
  have plain := Part.leftBy_plain dest dout cause counts none
  have port := s.dropped_port_self p dest dout counts
  have others := fun q hq => s.raise_dropped_chan p dest dout counts (q := q) hq (s.port p).lock cause
    counts.lockLosses s.exch.counter
  have own : (s.leftBy p dest dout cause counts).port p = (s.dropped p dest dout counts).port p := by
    rw [plain]
    rfl
  refine ⟨by rw [own, port]; rfl, fun q hq => ?_, ?_⟩
  · rw [← others q hq, plain]
    rfl
  · rw [own, port, plain]
    rfl

/-- Settles O19: the part that the clock watch leaves to the reference unit. -/
theorem clockWatchLeavesLock : Obligations.ClockWatchLeavesLock := by
  intro p sent s running locked none
  have blocks := s.part.leftBy_blocks p .dark (.held (s.part.doutLevel p sent)) .clockLost
    { (s.part.port p).counters with lockLosses := (s.part.port p).counters.lockLosses + 1 }
  have frame := Part.leftBy_frame .dark (.held (s.part.doutLevel p sent)) .clockLost
    { (s.part.port p).counters with lockLosses := (s.part.port p).counters.lockLosses + 1 } none
  have chan := s.part.leftBy_chan_self p .dark (.held (s.part.doutLevel p sent)) .clockLost
    { (s.part.port p).counters with lockLosses := (s.part.port p).counters.lockLosses + 1 } rfl
  refine ⟨_, _, exec_clockWatchExpiry_leaves sent running locked, rfl,
    Part.lockChanged_hearsLeaving _ p (blocks.1.trans running) locked rfl, ?_⟩
  generalize s.part.leftBy p _ _ _ _ = v at blocks frame chan ⊢
  obtain ⟨-, inStores, outStores, -⟩ := blocks
  obtain ⟨port, others, eq⟩ := frame
  refine ⟨by rw [port], by rw [port], fun before f frame none => ?_, fun before f i j b frame byte bit sentBits => ?_,
    by rw [port], inStores, outStores, chan, others, eq⟩
  · rw [port, Part.doutLevel, frame, none, Dout.level_zero_frame]
  · rw [port, Part.doutLevel, frame, sentBits, Dout.level_frame _ _ _ i byte bit]

/-- Settles O25: the part that a fourth bad frame leaves to the reference unit, and the outbound share that it is no
start for. -/
theorem fourthBadFrameLeavesLock : Obligations.FourthBadFrameLeavesLock := by
  intro p pulse rest s running last bad none owing
  have locked : s.part.inLock p = true := by rw [Part.inLock, last]; rfl
  obtain ⟨ends, leaves⟩ := Part.endFrame_fourthBad rest owing last bad
  have startless : exec (.frameEnd p pulse rest .start) s = .next s := by
    refine (State.answer_running running _).trans ?_
    rw [if_pos locked]
    dsimp only
    rw [Part.startShare_none _ (by rw [owing]; decide) fun _ => ends]
  have blocks := s.part.leftBy_blocks p .seek (.pattern (s.part.port p).dout.atEnd) .framingLost
    { (s.part.port p).counters with
      badFrames := (s.part.port p).counters.badFrames + 1
      lockLosses := (s.part.port p).counters.lockLosses + 1 }
  have frame := Part.leftBy_frame .seek (.pattern (s.part.port p).dout.atEnd) .framingLost
    { (s.part.port p).counters with
      badFrames := (s.part.port p).counters.badFrames + 1
      lockLosses := (s.part.port p).counters.lockLosses + 1 } none
  have chan := s.part.leftBy_chan_self p .seek (.pattern (s.part.port p).dout.atEnd) .framingLost
    { (s.part.port p).counters with
      badFrames := (s.part.port p).counters.badFrames + 1
      lockLosses := (s.part.port p).counters.lockLosses + 1 } rfl
  have hears := Part.lockChanged_hearsLeaving (s.part.leftBy p .seek (.pattern (s.part.port p).dout.atEnd) .framingLost
    { (s.part.port p).counters with
      badFrames := (s.part.port p).counters.badFrames + 1
      lockLosses := (s.part.port p).counters.lockLosses + 1 }) p (before := (s.part.port p).lock) (dest := .seek)
    (blocks.1.trans running) locked rfl
  refine ⟨_, _, exec_frameEnd_leaves running locked owing (by decide) ends leaves, rfl,
    exec_frameEnd_leaves running locked owing (by decide) ends leaves, startless, by rw [← last]; exact hears, ?_⟩
  clear hears leaves
  rw [last] at frame
  generalize s.part.leftBy p _ _ _ _ = v at blocks frame chan ⊢
  obtain ⟨-, inStores, outStores, -⟩ := blocks
  obtain ⟨port, others, eq⟩ := frame
  exact ⟨port, inStores, outStores, chan, others, eq⟩

end Sys2Proof.Machine
end

section
/-! Chapters 5 and 6, a leaving of lock at a port of any role (R63, R74, R78, R84, R85, R97, R99, R120). -/

namespace Sys2Proof.Machine

open Sys2Proof

/-! ### What a loss of the reference leaves of the record, and of a port out of lock -/

section
variable (s : Part) (reason : RefReason)

/-- The part after a loss of the reference, before an exchange frame start is taken at once (R78). -/
def Part.unreferenced : Part := (s.setRef s.ref.lost).raiseReference reason

theorem Part.loseReference_eq : s.loseReference reason =
    if (s.unreferenced reason).startDue .localTimer then (s.unreferenced reason).frameStart .localTimer
    else s.unreferenced reason := rfl

/-- After a loss the local timer is due when it has reached the period in use. -/
theorem Part.unreferenced_due :
    (s.unreferenced reason).startDue .localTimer = decide (s.ref.held.getD 2048 ≤ s.ref.timer) :=
  Part.startDue_afterLoss s _

theorem Part.loseReference_early (early : s.ref.timer < s.ref.held.getD 2048) :
    s.loseReference reason = s.unreferenced reason := by
  rw [Part.loseReference_eq, Part.unreferenced_due, if_neg (by simpa using early)]

theorem Part.loseReference_due (due : s.ref.held.getD 2048 ≤ s.ref.timer) :
    s.loseReference reason = (s.unreferenced reason).frameStart .localTimer := by
  rw [Part.loseReference_eq, Part.unreferenced_due, if_pos (by simpa using due)]

/-- REFERENCE reaches the other ports in lock whose masks include it (R84). -/
theorem Part.reached_reference {q : Port} (r : RefUnit) (locked : s.inLock q = true)
    (masked : (s.chan q).mask.getLsbD 2 = true) :
    s.reached ((s.setRef r).raiseReference reason) q
      (.reference r.mode r.tracked r.candidate reason r.held s.exch.counter) :=
  Part.reached_raise (s := s.setRef r) ((Part.admits_broadcast (bit := 2) rfl).mpr ⟨locked, nofun, masked⟩)

/-- With nothing tracked and no candidate an exchange frame start tracks nothing. -/
theorem Part.select_untracked (mode : s.ref.mode ≠ .tracking) (tracked : s.ref.tracked = none)
    (candidate : s.ref.candidate = none) (track : s.ref.track = false) :
    s.select.ref.tracked = none ∧ s.select.ref.track = false ∧ s.select.ref.mode ≠ .tracking := by
  unfold Part.select
  split
  · split
    · exact absurd ‹_› mode
    all_goals exact ⟨tracked, track, mode⟩
  · rw [if_neg (by simp [candidate])]
    unfold Part.choose
    split
    · exact ⟨tracked, track, nofun⟩
    · exact ⟨tracked, track, nofun⟩
    · exact ⟨tracked, track, mode⟩
    · exact absurd ‹_› mode

theorem RefUnit.lost_mode (r : RefUnit) : r.lost.mode ≠ .tracking := by
  show r.fallback ≠ .tracking
  unfold RefUnit.fallback
  split <;> decide

/-- The start taken at once after a loss tracks nothing, and leaves the held period as it was. -/
theorem Part.unreferenced_frameStart :
    ((s.unreferenced reason).frameStart .localTimer).ref.tracked = none
      ∧ ((s.unreferenced reason).frameStart .localTimer).ref.track = false
      ∧ ((s.unreferenced reason).frameStart .localTimer).ref.mode ≠ .tracking
      ∧ ((s.unreferenced reason).frameStart .localTimer).ref.held = s.ref.held := by
  obtain ⟨-, -, -, -, held⟩ := (s.unreferenced reason).frameStart_timing .localTimer
  refine and_assoc.mp (and_assoc.mp ⟨and_assoc.mpr ?_, held.trans rfl⟩)
  rw [Part.frameStart_ref]
  exact Part.select_untracked _ s.ref.lost_mode rfl rfl rfl

variable {s reason} {p : Port} (out : s.inLock p = false)
include out

/-- An exchange frame start leaves a port out of lock alone, its store not primed. -/
theorem Part.frameStart_outOfLock (cause : StartCause) (unprimed : (s.inStores.get p).primed = false) :
    (s.frameStart cause).port p = s.port p
      ∧ (s.frameStart cause).inStores.get p = s.inStores.get p
      ∧ (s.frameStart cause).outStores.get p = s.outStores.get p
      ∧ (s.list p = .cleared → (s.frameStart cause).list p = .cleared) := by
  refine ⟨?_, ?_, ?_, fun cleared => ?_⟩
  · rw [Part.frameStart_port]
    simp [out, Store.readRepeats, unprimed]
  · rw [Part.frameStart_inStores]
    exact (Store.read_unprimed unprimed).2
  · rw [Part.frameStart_outStores, if_neg (by simp [out])]
  · rw [Part.frameStart_list, cleared, ite_self]

theorem Part.loseReference_outOfLock (unprimed : (s.inStores.get p).primed = false) :
    (s.loseReference reason).port p = s.port p
      ∧ (s.loseReference reason).inStores.get p = s.inStores.get p
      ∧ (s.loseReference reason).outStores.get p = s.outStores.get p
      ∧ (s.list p = .cleared → (s.loseReference reason).list p = .cleared) := by
  rw [Part.loseReference_eq]
  split
  · exact Part.frameStart_outOfLock (s := s.unreferenced reason) out .localTimer unprimed
  · exact ⟨rfl, rfl, rfl, id⟩

theorem Part.lockChanged_outOfLock (before after : LockState) (unprimed : (s.inStores.get p).primed = false) :
    (s.lockChanged p before after).port p = s.port p
      ∧ (s.lockChanged p before after).inStores.get p = s.inStores.get p
      ∧ (s.lockChanged p before after).outStores.get p = s.outStores.get p
      ∧ (s.list p = .cleared → (s.lockChanged p before after).list p = .cleared) := by
  unfold Part.lockChanged
  split
  · unfold Part.clearCandidate
    split <;> exact ⟨rfl, rfl, rfl, id⟩
  · split
    · exact Part.loseReference_outOfLock out unprimed
    · exact ⟨rfl, rfl, rfl, id⟩

end

/-! ### The reference unit's part, by the role of the port (R74, R78) -/

section
variable {s : Part} {p : Port} {before after : LockState}

theorem Part.lockChanged_other (candidate : s.ref.candidate ≠ some p) (tracked : s.ref.tracked ≠ some p) :
    s.lockChanged p before after = s := by
  rw [Part.lockChanged, if_neg fun h => candidate h.1, if_neg fun h => tracked h.2.1]

theorem Part.lockChanged_tracked (mode : s.ref.mode = .tracking) (tracked : s.ref.tracked = some p)
    (candidate : s.ref.candidate ≠ some p) (left : before.inLock = true) (out : after.inLock = false) :
    s.lockChanged p before after = s.loseReference .referenceLost := by
  rw [Part.lockChanged, if_neg fun h => candidate h.1, if_pos ⟨mode, tracked, left, by simp [out]⟩]

theorem Part.clearCandidate_qualify (reason : RefReason) (mode : s.ref.mode = .qualify) : s.clearCandidate reason =
    (s.setRef { s.ref with mode := s.ref.fallback, candidate := none, count := 0 }).raiseReference reason := by
  rw [Part.clearCandidate, mode]

theorem Part.clearCandidate_silent (reason : RefReason) (mode : s.ref.mode ≠ .qualify) :
    s.clearCandidate reason = s.setRef { s.ref with candidate := none, count := 0 } := by
  unfold Part.clearCandidate
  split
  · exact absurd ‹_› mode
  all_goals rfl

theorem Part.lockChanged_candidate (candidate : s.ref.candidate = some p) (out : after.inLock = false) :
    s.lockChanged p .locked after = s.clearCandidate .candidateLost := by
  rw [Part.lockChanged, if_pos ⟨candidate, rfl, by rintro rfl; cases out⟩]

end

section
variable (s : Part) (p : Port) (dest : LockState) (dout : Dout) (cause : PortCause) (counts : Counters)

/-- A leaving with a RESTART pending empties the list of the port (R48). -/
theorem Part.leftBy_restart (restart : (s.port p).action = some .restart) :
    (s.leftBy p dest dout cause counts).list p = .cleared := by
  have action : ((s.dropped p dest dout counts).port p).action = some .restart := by
    rw [Part.dropped_port_self]
    exact restart
  show ((s.dropped p dest dout counts).actionEffect p).list p = .cleared
  unfold Part.actionEffect
  rw [action]
  exact Bank.get_set_self ..

/-- A leaving puts a pending profile in effect, and no other (R102, R103). -/
theorem Part.leftBy_profile :
    (∀ n k, (s.port p).action = some (.profile n k) → ((s.leftBy p dest dout cause counts).port p).profile
        = { (s.port p).profile with slotCount := n, controlSlot := k })
      ∧ ((s.port p).action = none ∨ (s.port p).action = some .restart →
        ((s.leftBy p dest dout cause counts).port p).profile = (s.port p).profile) := by
  have port := s.dropped_port_self p dest dout counts
  have action : ((s.dropped p dest dout counts).port p).action = (s.port p).action := by rw [port]; rfl
  have profile : ((s.dropped p dest dout counts).port p).profile = (s.port p).profile := by rw [port]; rfl
  show (∀ n k, _ → (((s.dropped p dest dout counts).actionEffect p).port p).profile = _)
    ∧ (_ → (((s.dropped p dest dout counts).actionEffect p).port p).profile = _)
  unfold Part.actionEffect
  rw [action]
  refine ⟨fun n k pending => ?_, ?_⟩
  · rw [pending]
    dsimp only
    rw [Part.profileEffect_port, if_pos rfl, profile]
  · rintro (none | restart)
    · rw [none]
      exact profile
    · rw [restart, ← profile]
      dsimp only
      show ((Part.modifyPort _ p _).port p).profile = _
      rw [Part.modifyPort_port_self]

end

/-- What reaches another port in lock after the leaving is REFERENCE as the unit raises it (R84). -/
theorem Part.reached_afterLeaving {s : Part} {p q : Port} {dest : LockState} {dout : Dout} {cause : PortCause}
    {counts : Counters} (reason : RefReason) (r : RefUnit) (hq : q ≠ p) (locked : s.inLock q = true)
    (masked : (s.chan q).mask.getLsbD 2 = true) :
    s.reached (((s.leftBy p dest dout cause counts).setRef r).raiseReference reason) q
      (.reference r.mode r.tracked r.candidate reason r.held s.exch.counter) := by
  have calm := s.dropped_to_leftBy p dest dout cause counts
  have number := (s.leftBy_counter p dest dout cause counts).1
  have inLock : (s.leftBy p dest dout cause counts).inLock q = true := by
    rw [calm.1 q, Part.dropped_inLock_ne _ _ _ _ _ hq, locked]
  have mask : ((s.leftBy p dest dout cause counts).chan q).mask.getLsbD 2 = true := by
    rw [calm.mask q, Part.dropped_chan_ne _ _ _ _ _ hq, masked]
  have raised := Part.reached_reference (s.leftBy p dest dout cause counts) reason r inLock mask
  rw [number] at raised
  exact Part.reached_of_dropped s p dest dout counts hq (Part.reached_between calm raised (Part.calm_refl _))

/-- Settles O28: the port's own effects by the way of leaving, then the reference unit by the role of the port. -/
theorem lockChangesReachTheReference : Obligations.LockChangesReachTheReference := by
  intro p c dest cause counts s running locked leaves
  obtain ⟨out, dout, seek, dark, step⟩ := leaves.exec running locked
  have blocks := s.part.leftBy_blocks p dest dout cause counts
  have number := (s.part.leftBy_counter p dest dout cause counts).1
  have port := s.part.leftBy_port_self p dest dout cause counts
  have profile := s.part.leftBy_profile p dest dout cause counts
  have cleared := s.part.leftBy_restart p dest dout cause counts
  have chan := s.part.leftBy_chan_self p dest dout cause counts out
  have left := s.part.leftBy_outOfLock p dest dout cause counts out
  have told := fun q => s.part.leftBy_reached p dest dout cause counts (q := q)
  have hears := fun q reason r => Part.reached_afterLeaving (s := s.part) (p := p) (q := q) (dest := dest) (dout := dout)
    (cause := cause) (counts := counts) reason r
  refine ⟨_, step, rfl, ?_⟩
  clear step leaves
  dsimp only
  generalize s.part.leftBy p dest dout cause counts = v at *
  obtain ⟨inReset, inStores, outStores, ref, -⟩ := blocks
  have flushed : v.inStores.get p = .flushed (s.part.port p).profile.depth := by rw [inStores, Bank.get_set_self]
  have flushedOut : v.outStores.get p = .flushed (s.part.port p).profile.depth := by rw [outStores, Bank.get_set_self]
  have calm := v.lockChanged_calm p (s.part.port p).lock dest
  obtain ⟨own, ownIn, ownOut, ownList⟩ := Part.lockChanged_outOfLock left (s.part.port p).lock dest (by rw [flushed]; rfl)
  rw [own, ownIn, ownOut, calm.chan_outOfLock left, chan, flushed, flushedOut]
  refine ⟨by rw [port]; rfl, by rw [port], by rw [port], by rw [port]; rfl, fun sent same => ?_, fun towards => ?_,
    fun restart => ownList (cleared restart), profile.1, profile.2, rfl, rfl, rfl, fun q hq lock mask => ?_,
    fun candidate tracked => ?_, fun mode tracked candidate short => ?_, fun mode tracked candidate due => ?_,
    fun candidate was mode => ?_, fun candidate was mode => ?_⟩
  · rw [port]
    exact dark sent same
  · rw [port]
    exact seek towards
  · exact Part.reached_between (Part.calm_refl _) (told q hq lock mask) calm
  · rw [Part.lockChanged_other (ref ▸ candidate) (ref ▸ tracked)]
    exact ⟨ref, number⟩
  · rw [Part.lockChanged_tracked (ref ▸ mode) (ref ▸ tracked) (ref ▸ candidate) locked out,
      Part.loseReference_early _ _ (by rw [ref]; exact short), ← ref]
    exact ⟨rfl, number, fun q hq lock mask => hears q .referenceLost v.ref.lost hq lock mask⟩
  · rw [Part.lockChanged_tracked (ref ▸ mode) (ref ▸ tracked) (ref ▸ candidate) locked out,
      Part.loseReference_due _ _ (by rw [ref]; exact due), ← ref]
    have timing := (v.unreferenced .referenceLost).frameStart_timing .localTimer
    obtain ⟨untracked, track, after, held⟩ := v.unreferenced_frameStart .referenceLost
    refine ⟨⟨⟨v.unreferenced .referenceLost, s.pending⟩, rfl, number, left,
      exec_exchangeFrameStart_taken (inReset.trans running) ?_, fun q hq lock mask =>
        hears q .referenceLost v.ref.lost hq lock mask⟩, ?_, timing.1, untracked, track, held, after,
      fun q hq lock mask => ?_⟩
    · rw [Part.unreferenced_due, ref]
      exact decide_eq_true due
    · rw [Part.frameStart_counter]
      exact congrArg (· + 1) number
    · exact Part.reached_between (Part.calm_refl _) (hears q .referenceLost v.ref.lost hq lock mask)
        (Part.frameStart_calm _ _)
  · rw [was, Part.lockChanged_candidate (ref ▸ candidate) out, Part.clearCandidate_qualify _ (ref ▸ mode), ← ref]
    exact ⟨rfl, fun q hq lock mask => hears q .candidateLost _ hq lock mask⟩
  · rw [was, Part.lockChanged_candidate (ref ▸ candidate) out,
      Part.clearCandidate_silent _ (by rw [ref, mode]; decide), ← ref]
    rfl

end Sys2Proof.Machine
end

section
/-! Chapter 6, the pending action of a port that leaves lock (R16, R32, R48, R49, R97, R99, R102 to R104, R120). -/

namespace Sys2Proof.Machine

open Sys2Proof

/-- The three ways in which a port with a pending action leaves lock, each with its cause and its counters. -/
theorem exec_leaves_pending {s : State} {p : Port} {a : PortAction} {named : PortCause}
    (running : s.part.inReset = false) (locked : s.part.inLock p = true) (pending : (s.part.port p).action = some a)
    (owing : (s.part.port p).owing = .nothing) (cause : actionCause (some a) = named)
    (P : State → LockState → PortCause → Counters → Prop)
    (leaves : ∀ dest dout cause counts, dest.inLock = false → (dest = .seek → dout = .pattern (s.part.port p).dout.atEnd) →
      P { s with part := (s.part.leftBy p dest dout cause counts).lockChanged p (s.part.port p).lock dest }
        dest cause counts) :
    (∀ (pulse : Bool) (rest : List Byte), (s.part.port p).actionDue = true →
        ((s.part.port p).endsWell pulse ∨ (s.part.port p).lock = .locked ∨ (s.part.port p).lock = .coast 1
          ∨ (s.part.port p).lock = .coast 2) →
        ∃ t : State, exec (.frameEnd p pulse rest .whole) s = .next t
          ∧ P t .seek named { (s.part.port p).counters with badFrames :=
              (s.part.port p).counters.badFrames + (if (s.part.port p).endsWell pulse then 0 else 1) })
      ∧ (∀ (pulse : Bool) (rest : List Byte), (s.part.port p).lock = .coast 3 → ¬ (s.part.port p).endsWell pulse →
        ∃ t : State, exec (.frameEnd p pulse rest .whole) s = .next t
          ∧ P t .seek .framingLost { (s.part.port p).counters with
              badFrames := (s.part.port p).counters.badFrames + 1
              lockLosses := (s.part.port p).counters.lockLosses + 1 })
      ∧ (∀ sent : Nat, ∃ t : State, exec (.clockWatchExpiry ⟨p, sent⟩) s = .next t
          ∧ (t.part.port p).dout = .held (s.part.doutLevel p sent)
          ∧ P t .dark .clockLost { (s.part.port p).counters with
              lockLosses := (s.part.port p).counters.lockLosses + 1 }) := by
  refine ⟨fun pulse rest due stays => ?_, fun pulse rest last bad => ?_, fun sent => ?_⟩
  · obtain ⟨ends, left⟩ := Part.endFrame_replyEnd rest owing due (by simp [pending]) stays
    rw [pending, cause] at left
    exact ⟨_, exec_frameEnd_leaves running locked owing (by decide) ends left, leaves .seek _ _ _ rfl fun _ => rfl⟩
  · obtain ⟨ends, left⟩ := Part.endFrame_fourthBad rest owing last bad
    exact ⟨_, exec_frameEnd_leaves running locked owing (by decide) ends left, leaves .seek _ _ _ rfl fun _ => rfl⟩
  · refine ⟨_, exec_clockWatchExpiry_leaves sent running locked, ?_, leaves .dark _ _ _ rfl nofun⟩
    dsimp only
    rw [Part.lockChanged_port, Part.leftBy_port_self]
    rfl

/-! ### RESTART (R48, R104) -/

/-- A leaving of lock with a RESTART pending moves the port, its stores, its list and the channels alone. -/
theorem Part.leftBy_restart_eq {s : Part} {p : Port} (dest : LockState) (dout : Dout) (cause : PortCause)
    (counts : Counters) (pending : (s.port p).action = some .restart) :
    s.leftBy p dest dout cause counts = { s.dropped p dest dout counts with
      ports := (s.leftBy p dest dout cause counts).ports
      lists := s.lists.set p .cleared
      chans := ((s.dropped p dest dout counts).raise (.portState p (s.port p).lock dest cause counts.lockLosses
        s.exch.counter)).chans } := by
  have port := s.dropped_port_self p dest dout counts
  have action : ((s.dropped p dest dout counts).port p).action = some .restart := by rw [port]; exact pending
  have effect : (s.dropped p dest dout counts).actionEffect p
      = ((s.dropped p dest dout counts).clearList p).modifyPort p fun u => { u with action := none } := by
    rw [Part.actionEffect, action]
    rfl
  have own : ((s.dropped p dest dout counts).clearList p).port p = (s.dropped p dest dout counts).port p := rfl
  rw [Part.leftBy, effect, Part.modifyPort_raisePortState, own, port]
  rfl

/-- Settles O26: the part that a pending RESTART in effect leaves to the reference unit. -/
theorem restartTakesEffect : Obligations.RestartTakesEffect := by
  intro p s running locked pending owing u restarts
  refine exec_leaves_pending running locked pending owing rfl restarts fun dest dout cause counts out seek => ?_
  have blocks := s.part.leftBy_blocks p dest dout cause counts
  have port := s.part.leftBy_port_self p dest dout cause counts
  have others := fun q => s.part.leftBy_port_ne p dest dout cause counts (q := q)
  have profile := (s.part.leftBy_profile p dest dout cause counts).2 (.inr pending)
  have chan := s.part.leftBy_chan_self p dest dout cause counts out
  have eq := Part.leftBy_restart_eq dest dout cause counts pending
  refine ⟨rfl, s.part.leftBy p dest dout cause counts,
    Part.lockChanged_hearsLeaving _ p (blocks.1.trans running) locked out, ?_, fun towards => ?_, others, ?_, ?_,
    blocks.2.1, blocks.2.2.1, chan, ?_⟩
  · rw [port, profile]
    rfl
  · rw [port]
    exact seek towards
  · rw [eq]
    exact Bank.get_set_self ..
  · intro m hm
    rw [eq]
    exact Bank.get_set_ne _ _ hm
  · rw [eq]
    exact ⟨fun q hq => s.part.raise_dropped_chan p dest dout counts hq _ cause _ _, rfl, rfl, rfl, rfl, rfl⟩

end Sys2Proof.Machine
end

section
/-! Chapter 6, a structural change in effect (R16, R32, R49, R103): its entries, holdings and edits, and the part it
leaves to the reference unit. -/

namespace Sys2Proof.Machine

open Sys2Proof

/-! ### The edits that go (R46) -/

/-- An edit is left in the list when it does not go. -/
theorem StagingList.without_spec (l : StagingList) (gone : Edit → Bool) :
    (∀ e, e ∈ (l.without gone).edits ↔ e ∈ l.edits ∧ ¬ gone e = true)
      ∧ (l.without gone).edits.Sublist l.edits
      ∧ (l.without gone).target = if (l.without gone).edits = [] then none else l.target := by
  refine ⟨fun e => by simp [StagingList.without], List.filter_sublist, ?_⟩
  simp [StagingList.without]

section
variable (s : Part) (m : Port) (gone : Edit → Bool) (reason : CancelReason)

theorem Part.removeEdits_calm : s.calm (s.removeEdits m gone reason) :=
  ⟨fun q => by rw [Part.inLock, Part.removeEdits_port]; rfl, s.removeEdits_notified m gone reason⟩

variable {s m gone reason}

/-- An armed list left empty raises APPLY_CANCELLED for its master (R46). -/
theorem Part.removeEdits_cancels {x : Target} (armed : (s.list m).target = some x) (some : (s.list m).edits ≠ [])
    (emptied : ((s.list m).without gone).edits = []) :
    s.removeEdits m gone reason
      = ({ s with lists := s.lists.set m ⟨[], none⟩ } : Part).raise (.applyCancelled m reason x) := by
  obtain ⟨mem, -, target⟩ := (s.list m).without_spec gone
  have goes : (s.list m).edits.any gone = true := by
    obtain ⟨e, he⟩ := List.exists_mem_of_ne_nil _ some
    refine List.any_eq_true.mpr ⟨e, he, ?_⟩
    by_contra stays
    have := (mem e).mpr ⟨he, stays⟩
    rw [emptied] at this
    cases this
  have left : (s.list m).without gone = ⟨[], none⟩ := by
    rw [if_pos emptied] at target
    rw [← emptied, ← target]
  unfold Part.removeEdits
  dsimp only
  rw [armed]
  dsimp only
  rw [goes, emptied, left]
  rfl

theorem Part.reached_cancelled {x : Target} (armed : (s.list m).target = some x) (some : (s.list m).edits ≠ [])
    (emptied : ((s.list m).without gone).edits = []) (locked : s.inLock m = true) :
    s.reached (s.removeEdits m gone reason) m (.applyCancelled m reason x) := by
  rw [Part.removeEdits_cancels armed some emptied]
  refine Part.reached_raise (s := { s with lists := s.lists.set m ⟨[], none⟩ }) ?_
  rw [Part.admits_directed rfl]
  exact ⟨locked, rfl⟩

end

/-! ### A structural change in effect -/

section
variable (s : Part) (p : Port) (n : SlotCount) (c : ControlSlot)

/-- An affected slot (R101). -/
theorem affected_iff (i : Slot) : affected n c i.val = true ↔
    (n = .s32 ∧ 32 ≤ i.val) ∨ (c = .first ∧ i.val = 0) ∨ (c = .last ∧ n = .s32 ∧ i.val = 31)
      ∨ (c = .last ∧ n = .s64 ∧ i.val = 63) := by
  have bound := i.isLt
  simp only [affected, Bool.or_eq_true, decide_eq_true_eq, beq_iff_eq]
  cases n <;> cases c <;>
    simp only [SlotCount.toNat, controlIndex, reduceCtorEq, true_and, false_and, false_or, or_false] <;> omega

/-- The source of an entry or edit names an affected inbound slot (R16, R49). -/
theorem Source.namesAffected_iff (src : Source) : src.namesAffected p n c = true ↔
    ∃ i : Slot, src = .inbound p i ∧ affected n c i.val = true := by
  cases src <;> simp [Source.namesAffected]

theorem losesTarget_iff (t : ClaimUnit) (m : Port) (e : Edit) : losesTarget t m p n c e = true ↔
    e.port = p ∧ affected n c e.slot.val = true ∧ t.holder (.slot p e.slot) = some m := by
  simp only [losesTarget, Bool.and_eq_true, beq_iff_eq, and_assoc]
  exact and_congr_right fun h => by rw [h]

theorem Part.settleEdits_calm (t : ClaimUnit) (s : Part) (m : Port) : s.calm (s.settleEdits t p n c m) :=
  s.removeEdits_calm m _ _

/-- The part with the new profile, before the edits are settled. -/
def Part.changed (s : Part) (p : Port) (n : SlotCount) (c : ControlSlot) : Part :=
  { s.modifyPort p fun u =>
      { u with profile := { u.profile with slotCount := n, controlSlot := c }, action := none } with
    exch := s.exch.resetAffected p n c
    claims := s.claims.endAffected p n c }

theorem Part.profileEffect_settles :
    s.profileEffect p n c = allPorts.foldl (Part.settleEdits s.claims p n c) (s.changed p n c) := rfl

/-- A master whose armed list a structural change leaves empty is told (R46). -/
theorem Part.profileEffect_cancels {m : Port} {x : Target} (locked : s.inLock m = true)
    (armed : (s.list m).target = some x) (some : (s.list m).edits ≠ [])
    (emptied : ((s.profileEffect p n c).list m).edits = []) :
    s.reached (s.profileEffect p n c) m (.applyCancelled m (cancelReason s.claims m p n c (s.list m)) x) := by
  rw [Part.profileEffect_list] at emptied
  rw [Part.profileEffect_settles]
  have start : s.calm (s.changed p n c) := by
    refine ⟨fun q => ?_, Part.notified_of_eq rfl⟩
    show (s.modifyPort p _).inLock q = s.inLock q
    rw [Part.inLock, Part.modifyPort_port]
    split <;> simp_all [Part.inLock]
  refine Part.reached_between start (Part.reached_foldl (Part.settleEdits s.claims p n c)
    (fun v m => Part.settleEdits_calm p n c s.claims v m) (mem_allPorts m) fun as first => ?_) (Part.calm_refl _)
  have calm := start.trans (Part.calm_foldl (Part.settleEdits s.claims p n c)
    (fun v m => Part.settleEdits_calm p n c s.claims v m) as (s.changed p n c))
  have same := foldl_untouched (Part.settleEdits s.claims p n c) (fun v => v.list m) as
    (fun v j hj => by
      show (v.removeEdits j _ _).list m = v.list m
      rw [Part.removeEdits_list, if_neg (by rintro rfl; exact first hj)]) (s.changed p n c)
  generalize as.foldl _ (s.changed p n c) = v at calm same ⊢
  change v.list m = s.list m at same
  rw [← same] at armed some emptied ⊢
  exact Part.reached_cancelled armed some emptied ((calm.1 m).trans locked)

/-- Which entries a structural change makes IDLE (R16). -/
theorem resetEntry_spec (g : Half) (q : Port) (i : Slot) (e : Entry) :
    ((q = p ∧ affected n c i.val = true ∧ e.source ≠ .idle) ∨ e.source.namesAffected p n c = true →
        resetEntry p n c g q i e = ⟨.idle, g⟩)
      ∧ (¬ ((q = p ∧ affected n c i.val = true ∧ e.source ≠ .idle) ∨ e.source.namesAffected p n c = true) →
        resetEntry p n c g q i e = e) := by
  have goes : ((q == p && affected n c i.val && e.source != .idle) || e.source.namesAffected p n c) = true
      ↔ (q = p ∧ affected n c i.val = true ∧ e.source ≠ .idle) ∨ e.source.namesAffected p n c = true := by
    simp only [Bool.or_eq_true, Bool.and_eq_true, beq_iff_eq, bne_iff_ne, and_assoc]
  exact ⟨fun h => if_pos (goes.mpr h), fun h => if_neg (mt goes.mp h)⟩

/-- The reason that a cancelled list is told (R46). -/
theorem cancelReason_released_iff (t : ClaimUnit) (m : Port) (l : StagingList) :
    cancelReason t m p n c l = .released ↔ ∃ e ∈ l.edits, losesTarget t m p n c e = true := by
  rw [cancelReason, ← List.any_eq_true]
  split <;> simp_all

end

section
variable (s : Part) (p : Port) (dest : LockState) (dout : Dout) (cause : PortCause) (counts : Counters)
  {n : SlotCount} {c : ControlSlot} (pending : (s.port p).action = some (.profile n c))
include pending

/-- A leaving of lock with a structural change pending puts it in effect (R103). -/
theorem Part.leftBy_structural : s.leftBy p dest dout cause counts
    = ((s.dropped p dest dout counts).profileEffect p n c).raisePortState p (s.port p).lock cause := by
  have action : ((s.dropped p dest dout counts).port p).action = some (.profile n c) := by
    rw [Part.dropped_port_self]
    exact pending
  rw [Part.leftBy, Part.actionEffect, action]

omit pending in
/-- PORT_STATE moves the channels alone. -/
theorem Part.raisePortState_blocks (v : Part) : (v.raisePortState p dest cause).exch = v.exch
    ∧ (v.raisePortState p dest cause).claims = v.claims ∧ (v.raisePortState p dest cause).lists = v.lists
    ∧ v.calm (v.raisePortState p dest cause) :=
  ⟨rfl, rfl, rfl, Part.calm_raise _ _⟩

theorem Part.leftBy_entry (q : Port) (i : Slot) : (s.leftBy p dest dout cause counts).entry q i
    = resetEntry p n c s.exch.generation q i (s.entry q i) := by
  rw [s.leftBy_structural p dest dout cause counts pending, Part.entry, (Part.raisePortState_blocks _ _ _ _).1]
  exact Part.profileEffect_entry (s.dropped p dest dout counts) p q n c i

theorem Part.leftBy_claims :
    (s.leftBy p dest dout cause counts).claims = s.claims.endAffected p n c := by
  rw [s.leftBy_structural p dest dout cause counts pending, (Part.raisePortState_blocks _ _ _ _).2.1,
    Part.profileEffect_eq]
  rfl

theorem Part.leftBy_list (m : Port) : (s.leftBy p dest dout cause counts).list m =
    (s.list m).without fun e => losesTarget s.claims m p n c e || e.source.namesAffected p n c := by
  rw [s.leftBy_structural p dest dout cause counts pending, Part.list, (Part.raisePortState_blocks _ _ _ _).2.2.1]
  exact Part.profileEffect_list (s.dropped p dest dout counts) p m n c

theorem Part.leftBy_cancels {m : Port} {x : Target} (hm : m ≠ p) (locked : s.inLock m = true)
    (armed : (s.list m).target = some x) (some : (s.list m).edits ≠ [])
    (emptied : ((s.leftBy p dest dout cause counts).list m).edits = []) :
    s.reached (s.leftBy p dest dout cause counts) m
      (.applyCancelled m (cancelReason s.claims m p n c (s.list m)) x) := by
  rw [s.leftBy_structural p dest dout cause counts pending, Part.list, (Part.raisePortState_blocks _ _ _ _).2.2.1]
    at emptied
  rw [s.leftBy_structural p dest dout cause counts pending]
  exact Part.reached_of_dropped s p dest dout counts hm (Part.reached_between (Part.calm_refl _)
    (Part.profileEffect_cancels (s.dropped p dest dout counts) p n c
      ((s.dropped_inLock_ne p dest dout counts hm).trans locked) armed some emptied)
    (Part.raisePortState_blocks _ _ _ _).2.2.2)

end

/-- Every channel but that of the leaving port moves by notices alone. -/
theorem Part.leftBy_onlyNoticesJoined (s : Part) (p : Port) (dest : LockState) (dout : Dout) (cause : PortCause)
    (counts : Counters) : s.onlyNoticesJoined { s.leftBy p dest dout cause counts with
      chans := (s.leftBy p dest dout cause counts).chans.set p (s.chan p) } := by
  have calm := s.dropped_to_leftBy p dest dout cause counts
  have joined := Part.onlyNoticesJoined_of_notified calm.2
  intro q
  generalize s.leftBy p dest dout cause counts = v at joined
  show ((v.chans.set p (s.chan p)).get q = { s.chan q with
      notices := ((v.chans.set p (s.chan p)).get q).notices, lost := ((v.chans.set p (s.chan p)).get q).lost })
    ∧ (_ → (v.chans.set p (s.chan p)).get q = s.chan q)
  by_cases own : q = p
  · subst own
    rw [Bank.get_set_self]
    exact ⟨rfl, fun _ => rfl⟩
  · rw [Bank.get_set_ne _ _ own, ← s.dropped_inLock_ne p dest dout counts own, ← s.dropped_chan_ne p dest dout counts own]
    exact joined q

/-- Settles O27: the part that a structural change in effect leaves to the reference unit. -/
theorem profileChangeTakesEffect : Obligations.ProfileChangeTakesEffect := by
  intro p n c s running locked pending owing u isAffected names changes
  have isAff : ∀ i : Slot, affected n c i.val = true ↔ isAffected i := affected_iff n c
  have isNamed : ∀ src : Source, src.namesAffected p n c = true ↔ names src := fun src =>
    (src.namesAffected_iff p n c).trans (exists_congr fun i => and_congr_right fun _ => isAff i)
  refine exec_leaves_pending running locked pending owing rfl changes fun dest dout cause counts out seek => ?_
  have blocks := s.part.leftBy_blocks p dest dout cause counts
  have port := s.part.leftBy_port_self p dest dout cause counts
  have others := fun q => s.part.leftBy_port_ne p dest dout cause counts (q := q)
  have profile := (s.part.leftBy_profile p dest dout cause counts).1 n c pending
  have chan := s.part.leftBy_chan_self p dest dout cause counts out
  have counter := s.part.leftBy_counter p dest dout cause counts
  have entry := s.part.leftBy_entry p dest dout cause counts pending
  have claims := s.part.leftBy_claims p dest dout cause counts pending
  have list := s.part.leftBy_list p dest dout cause counts pending
  have cancels := fun m x => s.part.leftBy_cancels p dest dout cause counts pending (m := m) (x := x)
  have hears := Part.lockChanged_hearsLeaving (s.part.leftBy p dest dout cause counts) p
    (before := (s.part.port p).lock) (dest := dest) (blocks.1.trans running) locked out
  have joined := s.part.leftBy_onlyNoticesJoined p dest dout cause counts
  have told := fun q => s.part.leftBy_reached p dest dout cause counts (q := q)
  refine ⟨rfl, s.part.leftBy p dest dout cause counts, hears, ?_⟩
  clear hears
  clear_value isAffected names
  generalize s.part.leftBy p dest dout cause counts = v at *
  obtain ⟨-, inStores, outStores, ref, play, mem, -⟩ := blocks
  refine ⟨?_, fun towards => ?_, others, fun q i => ?_, counter.1, counter.2, fun i hi => ?_, fun q i hi => ?_, ?_, ?_, ?_,
    fun m e => ?_, fun m => ?_, fun m => ?_, fun m x hm lock armed some emptied => ?_, chan, joined, told, inStores,
    outStores, ref, play, mem⟩
  · rw [port, profile]
    rfl
  · rw [port]
    exact seek towards
  · rw [entry, ← isAff, ← isNamed]
    exact resetEntry_spec p n c s.part.exch.generation q i (s.part.entry q i)
  · rw [claims, ClaimUnit.endAffected_slot, if_pos ⟨rfl, (isAff i).mpr hi⟩]
  · rw [claims, ClaimUnit.endAffected_slot, if_neg (by rw [isAff]; exact hi)]
  · rw [claims]
    rfl
  · rw [claims]
    rfl
  · rw [claims]
    rfl
  · rw [list, ((s.part.list m).without_spec _).1, Bool.or_eq_true, losesTarget_iff, isNamed, isAff, not_or]
  · rw [list]
    exact ((s.part.list m).without_spec _).2.1
  · rw [list]
    exact ((s.part.list m).without_spec _).2.2
  · refine ⟨_, cancels m x hm lock armed some emptied, ?_⟩
    rw [cancelReason_released_iff]
    exact exists_congr fun e => and_congr_right fun _ => (losesTarget_iff p n c _ m e).trans (by rw [isAff])

end Sys2Proof.Machine
end

section
/-! Chapter 7, the receiver of a control channel (R95, R106 to R113): what each control byte does, a whole message at
the queues, and the bytes of a framed message in turn. -/

namespace Sys2Proof.Machine

open Sys2Proof

/-! ### A control byte arrival, by the state of the receiver (R95, R108) -/

/-- The part after an arrival: the bytes received and the counters of the port, and the receiver of its channel. -/
def Part.heard (s : Part) (p : Port) (received : List Byte) (counts : Counters) (r : Receiver) : Part :=
  { s with
    ports := s.ports.set p { s.port p with
      received := received, position := 8 * (s.port p).profile.control + 7, counters := counts }
    chans := s.chans.set p { s.chan p with rx := r } }

section
variable (s : Part) (p : Port) (earlier : List Byte) (b : Byte)

theorem Part.heard_chan (received : List Byte) (counts : Counters) (r : Receiver) :
    (s.heard p received counts r).chan p = { s.chan p with rx := r } := Bank.get_set_self ..

theorem Part.heard_port (received : List Byte) (counts : Counters) (r : Receiver) :
    (s.heard p received counts r).port p = { s.port p with
      received := received, position := 8 * (s.port p).profile.control + 7, counters := counts } := Bank.get_set_self ..

/-- Of two arrivals the second stands. -/
theorem Part.heard_heard (before received : List Byte) (first counts : Counters) (r r' : Receiver) :
    (s.heard p before first r).heard p received counts r' = s.heard p received counts r' := by
  rw [Part.heard, Part.heard_chan, Part.heard_port]
  simp only [Part.heard, Bank.set_set]

/-- The bytes join the inbound frame, and the receiver acts. -/
theorem Part.controlByte_heard : s.controlByte p earlier b
    = (s.heard p ((s.port p).received ++ earlier ++ [b]) (s.port p).counters (s.chan p).rx).receive p b := by
  have same : s.chans.set p { s.chan p with rx := (s.chan p).rx } = s.chans := Bank.set_get_self ..
  rw [Part.heard, same]
  rfl

/-- A change of the receiver. -/
theorem Part.heard_setReceiver (received : List Byte) (counts : Counters) (r r' : Receiver) :
    (s.heard p received counts r).setReceiver p r' = s.heard p received counts r' := by
  simp [Part.setReceiver, Part.modifyChan, Part.heard, Bank.modify]

theorem Part.heard_modifyChan (received : List Byte) (counts : Counters) (r : Receiver)
    (f : ControlChannel → ControlChannel) : (s.heard p received counts r).modifyChan p f =
      { s.heard p received counts r with chans := s.chans.set p (f { s.chan p with rx := r }) } := by
  simp [Part.modifyChan, Part.heard, Bank.modify]

/-- A change of the counters. -/
theorem Part.heard_count (received : List Byte) (counts : Counters) (r : Receiver) (f : Counters → Counters) :
    (s.heard p received counts r).count p f = s.heard p received (f counts) r := by
  simp [Part.count, Part.modifyPort, Part.heard, Bank.modify]

variable {s p b}

theorem Part.controlByte_sync (hunt : (s.chan p).rx.state = .hunt) : s.controlByte p earlier syncByte
    = s.heard p ((s.port p).received ++ earlier ++ [syncByte]) (s.port p).counters ⟨.length, some [], 0⟩ := by
  rw [Part.controlByte_heard, Part.receive_sync _ _ (by rw [Part.heard_chan]; exact hunt), Part.heard_setReceiver]

theorem Part.controlByte_noSync (hunt : (s.chan p).rx.state = .hunt) (other : b ≠ syncByte) : s.controlByte p earlier b
    = s.heard p ((s.port p).received ++ earlier ++ [b]) (s.port p).counters (s.chan p).rx := by
  rw [Part.controlByte_heard, Part.receive_noSync _ _ (by rw [Part.heard_chan]; exact hunt) other]

theorem Part.controlByte_length (length : (s.chan p).rx.state = .length) (low : 2 ≤ b.toNat) (high : b.toNat ≤ 32) :
    s.controlByte p earlier b = s.heard p ((s.port p).received ++ earlier ++ [b]) (s.port p).counters
      ((s.chan p).rx.keep b .body) := by
  rw [Part.controlByte_heard, Part.receive_length _ _ (by rw [Part.heard_chan]; exact length) low high,
    Part.heard_chan, Part.heard_setReceiver]

theorem Part.controlByte_badLength (length : (s.chan p).rx.state = .length) (bad : b.toNat < 2 ∨ 32 < b.toNat) :
    s.controlByte p earlier b = s.heard p ((s.port p).received ++ earlier ++ [b])
      { (s.port p).counters with framingErrors := (s.port p).counters.framingErrors + 1 } (s.chan p).rx.hunting := by
  rw [Part.controlByte_heard, Part.receive, Part.heard_chan, length]
  dsimp only
  rw [if_neg (by omega), Part.heard_setReceiver, Part.heard_count]

theorem Part.controlByte_body (body : (s.chan p).rx.state = .body) : s.controlByte p earlier b
    = s.heard p ((s.port p).received ++ earlier ++ [b]) (s.port p).counters
      ((s.chan p).rx.keep b (s.chan p).rx.afterBody) := by
  rw [Part.controlByte_heard, Part.receive_body _ _ _ (by rw [Part.heard_chan]; exact body), Part.heard_chan,
    Part.heard_setReceiver]

theorem Part.controlByte_badCheck (check : (s.chan p).rx.state = .check) (bad : b ≠ (s.chan p).rx.running) :
    s.controlByte p earlier b = s.heard p ((s.port p).received ++ earlier ++ [b])
      { (s.port p).counters with checkErrors := (s.port p).counters.checkErrors + 1 } (s.chan p).rx.hunting := by
  rw [Part.controlByte_heard, Part.receive, Part.heard_chan, check]
  dsimp only
  rw [if_neg bad, Part.heard_setReceiver, Part.heard_count]

/-- A matching check byte completes the message (R109). -/
theorem Part.controlByte_check (check : (s.chan p).rx.state = .check) :
    s.controlByte p earlier (s.chan p).rx.running
      = (s.heard p ((s.port p).received ++ earlier ++ [(s.chan p).rx.running]) (s.port p).counters
          (s.chan p).rx.hunting).messageComplete p (s.chan p).rx.bytes.tail := by
  rw [Part.controlByte_heard, Part.receive, Part.heard_chan, check]
  dsimp only
  rw [if_pos rfl, Part.heard_setReceiver]

/-- The L-th body byte is the last (R108). -/
theorem Receiver.keep_body {r : Receiver} {l : Byte} {body : List Byte} (bytes : r.partialMessage = some (l :: body)) :
    r.keep b r.afterBody = ⟨if body.length + 1 < l.toNat then .body else .check, some (l :: (body ++ [b])),
      checkStep r.running b⟩ := by
  simp only [Receiver.keep, Receiver.afterBody, Receiver.bytes, bytes, Option.getD_some, List.cons_append]
  congr 1
  rw [← ite_not]
  exact if_congr not_le rfl rfl

end

theorem exec_controlByteArrival {s : State} {p : Port} (earlier : List Byte) (b : Byte)
    (running : s.part.inReset = false) (locked : s.part.inLock p = true) :
    exec (.controlByteArrival p earlier b) s = .next { s with part := s.part.controlByte p earlier b } := by
  refine (State.answer_running running _).trans ?_
  rw [if_pos locked]

theorem exec_controlMessageReceived {s : State} {p : Port} (earlier : List Byte) (check : Byte)
    (running : s.part.inReset = false) (locked : s.part.inLock p = true) (state : (s.part.chan p).rx.state = .check) :
    exec (.controlMessageReceived p earlier check) s = .next { s with part := s.part.controlByte p earlier check } := by
  refine (State.answer_running running _).trans ?_
  rw [if_pos (by rw [locked, state]; rfl)]

/-- Settles O29: the control byte by the state of the receiver and the byte. -/
theorem theReceiverActsByStateAndByte : Obligations.TheReceiverActsByStateAndByte := by
  intro p earlier b s running locked u kept c after checked outcome
  have arrives : outcome = .next { s with part := s.part.controlByte p earlier b } :=
    exec_controlByteArrival earlier b running locked
  clear_value outcome
  subst arrives
  refine ⟨fun hunt sync => ?_, fun hunt other => ?_, fun length empty low high => ?_, fun length bad => ?_,
    fun l body state bytes => ?_, fun check bad => ?_⟩
  · have isSync : b = syncByte := sync
    rw [isSync, Part.controlByte_sync earlier hunt, ← isSync]
    rfl
  · rw [Part.controlByte_noSync earlier hunt other]
    rfl
  · rw [Part.controlByte_length earlier length low high, Receiver.keep, Receiver.bytes, empty]
    rfl
  · rw [Part.controlByte_badLength earlier length bad]
    rfl
  · rw [Part.controlByte_body earlier state, Receiver.keep_body bytes]
    rfl
  · rw [Part.controlByte_badCheck earlier check bad]
    rfl

/-! ### A whole message (R109 to R113) -/

/-- A message that finds a full intake queue is discarded (R109). -/
theorem Part.messageComplete_full {s : Part} {p : Port} (body : List Byte) (full : (s.chan p).intake.length = 2) :
    s.messageComplete p body = (s.count p fun c => { c with intakeOverruns := c.intakeOverruns + 1 }).modifyChan p
      fun c => { c with overrun := saturatingNext c.overrun } := by
  rw [Part.messageComplete, if_neg (by rw [full]; decide)]

/-- A message that finds a full reply queue waits (R110, R111). -/
theorem Part.messageComplete_waits {s : Part} {p : Port} (body : List Byte) (room : (s.chan p).intake.length < 2)
    (full : 4 ≤ (s.chan p).replies.length) :
    s.messageComplete p body = s.modifyChan p fun c => { c with intake := c.intake ++ [body] } := by
  rw [Part.messageComplete, if_pos (show _ < intakeSize from room), show intakeSize = 1 + 1 from rfl, Part.takeWaiting, Part.modifyChan_chan_self]
  split
  · rfl
  · rw [if_neg (by simpa using full)]

/-- The kind bytes 01H to 10H are requests (R123). -/
theorem requestKind_known {kind : Byte} (low : 1 ≤ kind.toNat) (high : kind.toNat ≤ 16) : requestKind kind ≠ none := by
  have value : kind = BitVec.ofNat 8 kind.toNat := by simp
  rw [value]
  generalize kind.toNat = n at low high
  interval_cases n <;> decide

/-- One reply joins, with the tag of its request and its kind (R111, R123, R126). -/
theorem Part.answerMessage_reply (s : Part) (p : Port) (kind tag : Byte) (fields : List Byte) :
    ∃ r : Reply, ((s.answerMessage p (kind :: tag :: fields)).chan p).rx = (s.chan p).rx
      ∧ ((s.answerMessage p (kind :: tag :: fields)).chan p).replies = (s.chan p).replies ++ [r]
      ∧ r.tag = tag ∧ r.kind = if 1 ≤ kind.toNat ∧ kind.toNat ≤ 16 then kind + 0x80 else 0x80 := by
  cases known : requestKind kind with
  | some k =>
    have named : k.code = kind := by simpa using List.find?_some known
    obtain ⟨low, high⟩ := k.code_range
    subst named
    rw [Part.answerMessage_known, if_pos ⟨low, high⟩]
    unfold Part.answerKnown
    dsimp only
    split
    case isTrue =>
      obtain ⟨rx, -, -, replies, -⟩ := act_sameTraffic s k p p fields
      refine ⟨⟨replyKind k, tag, (act k p fields s).status, (act k p fields s).fields, (act k p fields s).marked⟩,
        ?_, ?_, rfl, rfl⟩
      · rw [Part.pushReply_chan, if_pos rfl]
        exact rx
      · rw [Part.pushReply_chan, if_pos rfl]
        exact congrArg (· ++ _) replies
    case isFalse => exact ⟨⟨replyKind k, tag, .badLength, refusalFields k p s, false⟩, by rw [Part.pushReply_chan, if_pos rfl]; rfl,
      by rw [Part.pushReply_chan, if_pos rfl]; rfl, rfl, rfl⟩
  | none =>
    have foreign : ¬ (1 ≤ kind.toNat ∧ kind.toNat ≤ 16) := fun range => requestKind_known range.1 range.2 known
    rw [Part.answerMessage, known, if_neg foreign]
    exact ⟨_, by rw [Part.pushReply_chan, if_pos rfl], by rw [Part.pushReply_chan, if_pos rfl], rfl, rfl⟩

/-- Settles O30: the byte that ends a message, by its check, the intake queue and the reply queue. -/
theorem aMessageIsReceived : Obligations.AMessageIsReceived := by
  intro p earlier check l kind tag fields s running locked state bytes u c after
  have arrives := exec_controlMessageReceived earlier check running locked state
  have body : (s.part.chan p).rx.bytes.tail = kind :: tag :: fields := by rw [Receiver.bytes, bytes]; rfl
  refine ⟨fun bad => ?_, fun good full => ?_, fun good room full => ?_, fun good empty room => ?_⟩
  · refine arrives.trans ?_
    rw [Part.controlByte_badCheck earlier state bad]
    rfl
  all_goals
    have completes := arrives
    rw [good, Part.controlByte_check earlier state, body] at completes
    have chan := s.part.heard_chan p ((s.part.port p).received ++ earlier ++ [c.rx.running]) (s.part.port p).counters
      c.rx.hunting
  · rw [Part.messageComplete_full _ (by rw [chan]; exact full), Part.heard_count, Part.heard_modifyChan, ← good]
      at completes
    exact completes
  · rw [Part.messageComplete_waits _ (by rw [chan]; exact room) (by rw [chan]; exact full), Part.heard_modifyChan,
      ← good] at completes
    exact completes
  · rw [Part.messageComplete_ready _ _ _ (by rw [chan]; exact empty) (by rw [chan]; exact room)] at completes
    obtain ⟨r, rx, replies, tagged, named⟩ := Part.answerMessage_reply (s.part.heard p
      ((s.part.port p).received ++ earlier ++ [c.rx.running]) (s.part.port p).counters c.rx.hunting) p kind tag fields
    have intake := Part.answerMessage_intake (s.part.heard p
      ((s.part.port p).received ++ earlier ++ [c.rx.running]) (s.part.port p).counters c.rx.hunting) p p
      (kind :: tag :: fields)
    rw [chan] at rx replies intake
    rw [good]
    exact ⟨_, r, completes, rfl, rx, intake.trans empty, replies, tagged, named⟩

end Sys2Proof.Machine
end

section
/-! Chapter 7, a framed message at the receiver, byte by byte (R95, R106 to R109). -/

namespace Sys2Proof.Machine

open Sys2Proof

/-! ### Runs of arrivals -/

/-- These bytes arrive at port `p`, one after another. -/
def arrivals (p : Port) (bytes : List Byte) : List Instr := bytes.map fun b => .controlByteArrival p [] b

/-- The state while a message arrives: the bytes received so far, the receiver and the commands that wait. -/
def State.hearing (s : State) (p : Port) (received : List Byte) (r : Receiver) (pending : List Instr) : State :=
  ⟨s.part.heard p received (s.part.port p).counters r, pending⟩

/-- A run takes the front command first. -/
theorem run_front {s t : State} {c : Instr} {rest : List Instr} (n : Nat) (front : s.pending = c :: rest)
    (runs : exec c { s with pending := rest } = .next t) :
    Host.Core.run core (n + 1) s = Host.Core.run core n t := by
  have first : core.step s = .next t := by
    show step s = _
    rw [step, front]
    exact runs
  simp only [Host.Core.run, first]

/-- A run of one step. -/
theorem run_one {s : State} {c : Instr} {rest : List Instr} (front : s.pending = c :: rest) :
    Host.Core.run core 1 s = exec c { s with pending := rest } := by
  have first : core.step s = exec c { s with pending := rest } := by
    show step s = _
    rw [step, front]
  simp only [Host.Core.run, first]
  cases exec c { s with pending := rest } <;> rfl

section
variable {s : State} {p : Port} (running : s.part.inReset = false) (locked : s.part.inLock p = true)
include running locked

theorem State.hearing_running (received : List Byte) (r : Receiver) (pending : List Instr) :
    (s.hearing p received r pending).part.inReset = false ∧ (s.hearing p received r pending).part.inLock p = true := by
  refine ⟨running, ?_⟩
  show (s.part.heard p _ _ _).inLock p = true
  rw [Part.inLock, Part.heard_port]
  exact locked

/-- One more byte of a message. -/
theorem run_hearing (n : Nat) {received : List Byte} {r r' : Receiver} {b : Byte} {rest : List Instr}
    (hears : (s.part.heard p received (s.part.port p).counters r).controlByte p [] b
      = (s.part.heard p received (s.part.port p).counters r).heard p (received ++ [b]) (s.part.port p).counters r') :
    Host.Core.run core (n + 1) (s.hearing p received r (arrivals p [b] ++ rest))
      = Host.Core.run core n (s.hearing p (received ++ [b]) r' rest) := by
  obtain ⟨runs, inLock⟩ := State.hearing_running running locked received r rest
  refine run_front n rfl ((exec_controlByteArrival [] b runs inLock).trans ?_)
  dsimp only [State.hearing]
  rw [hears, Part.heard_heard]

/-- The sync byte at a receiver that hunts. -/
theorem run_sync (hunt : (s.part.chan p).rx.state = .hunt) (n : Nat) (rest : List Instr) :
    Host.Core.run core (n + 1) { s with pending := arrivals p [syncByte] ++ rest }
      = Host.Core.run core n (s.hearing p ((s.part.port p).received ++ [syncByte]) ⟨.length, some [], 0⟩ rest) := by
  refine run_front n rfl ((exec_controlByteArrival (s := { s with pending := rest }) [] syncByte running
    locked).trans ?_)
  dsimp only
  rw [Part.controlByte_sync [] hunt, List.append_nil]
  rfl

/-- The length byte after the sync byte. -/
theorem run_length (n : Nat) {l : Byte} (rest : List Instr) (received : List Byte) (low : 2 ≤ l.toNat)
    (high : l.toNat ≤ 32) :
    Host.Core.run core (n + 1) (s.hearing p received ⟨.length, some [], 0⟩ (arrivals p [l] ++ rest))
      = Host.Core.run core n (s.hearing p (received ++ [l]) ⟨.body, some [l], checkStep 0 l⟩ rest) :=
  run_hearing running locked n (by
    rw [Part.controlByte_length [] (by rw [Part.heard_chan]) low high, Part.heard_chan, Part.heard_port, List.append_nil]
    rfl)

/-- The check byte of a message completes it, as its request does. -/
theorem run_check (more : List Instr) (received : List Byte) (l check kind tag : Byte) (fields : List Byte) :
    Host.Core.run core 1 (s.hearing p received ⟨.check, some (l :: ([] ++ kind :: tag :: fields)), check⟩
        (arrivals p [check] ++ more))
      = exec (.unknownKind p kind tag fields) (s.hearing p (received ++ [check]) ⟨.hunt, none, check⟩ more) := by
  obtain ⟨runs, inLock⟩ := State.hearing_running running locked received
    ⟨.check, some (l :: ([] ++ kind :: tag :: fields)), check⟩ more
  obtain ⟨runs', inLock'⟩ := State.hearing_running running locked (received ++ [check]) ⟨.hunt, none, check⟩ more
  have completes := Part.controlByte_check (s := s.part.heard p received (s.part.port p).counters
    ⟨.check, some (l :: ([] ++ kind :: tag :: fields)), check⟩) (p := p) [] (by rw [Part.heard_chan])
  rw [Part.heard_chan, Part.heard_port, Part.heard_heard, List.append_nil] at completes
  refine (run_one rfl).trans ((exec_controlByteArrival [] check runs inLock).trans ?_)
  refine Eq.trans ?_ (State.answer_running runs' _).symm
  rw [if_pos inLock']
  exact congrArg (fun v => Host.Outcome.next (State.mk v more)) completes

/-- The bytes of a body that still lacks `bs` arrive. -/
theorem run_body (n : Nat) {l : Byte} {rest : List Instr} (bs : List Byte) (received done : List Byte) (v : Byte)
    (some : bs ≠ []) (length : l.toNat = done.length + bs.length) :
    Host.Core.run core (bs.length + n)
        (s.hearing p received ⟨.body, .some (l :: done), v⟩ (arrivals p bs ++ rest))
      = Host.Core.run core n (s.hearing p (received ++ bs) ⟨.check, .some (l :: (done ++ bs)), bs.foldl checkStep v⟩
          rest) := by
  induction bs generalizing received done v with
  | nil => exact absurd rfl some
  | cons b bs ih =>
    have arrival := run_hearing running locked (bs.length + n) (received := received)
      (r := ⟨.body, .some (l :: done), v⟩) (b := b) (rest := arrivals p bs ++ rest)
      (r' := ⟨if done.length + 1 < l.toNat then .body else .check, .some (l :: (done ++ [b])), checkStep v b⟩) (by
        rw [Part.controlByte_body (earlier := []) (by rw [Part.heard_chan]), Part.heard_chan, Part.heard_port,
          Receiver.keep_body rfl, List.append_nil])
    have count : (b :: bs).length + n = bs.length + n + 1 := by simp; omega
    rw [count]
    refine arrival.trans ?_
    cases bs with
    | nil =>
      rw [if_neg (by simp at length; omega)]
      simp [arrivals]
    | cons b' bs =>
      rw [if_pos (by simp at length; omega), ih _ _ _ (by simp) (by simp at length ⊢; omega)]
      simp

end

/-- Settles O31: sync, length, body and check byte in turn, then the completion. -/
theorem framedMessagesAreReceivedWhole : Obligations.FramedMessagesAreReceivedWhole := by
  refine ⟨fun p tag fields s => ⟨rfl, rfl, rfl, rfl, rfl, rfl, rfl, rfl, rfl, rfl, rfl, rfl, rfl, rfl, rfl, rfl⟩, ?_⟩
  intro p kind tag fields more s short running locked hunt checked length check bytes
  have count : length.toNat = (kind :: tag :: fields).length := by
    show (BitVec.ofNat 8 (fields.length + 2)).toNat = _
    rw [BitVec.toNat_ofNat, Nat.mod_eq_of_lt (by omega)]
    rfl
  have split : bytes = syncByte :: length :: ((kind :: tag :: fields) ++ [check]) := rfl
  have steps : checked = checkStep := funext fun v => funext fun b => (checkStep_eq v b).symm
  have checks : check = (length :: kind :: tag :: fields).foldl checked 0 := rfl
  clear_value bytes check length checked
  rw [steps, List.foldl_cons] at checks
  subst split
  have sync := run_sync running locked hunt ((kind :: tag :: fields).length + 2)
    (arrivals p [length] ++ (arrivals p (kind :: tag :: fields) ++ (arrivals p [check] ++ more)))
  have counted := run_length running locked ((kind :: tag :: fields).length + 1)
    (arrivals p (kind :: tag :: fields) ++ (arrivals p [check] ++ more)) ((s.part.port p).received ++ [syncByte])
    (by rw [count]; simp) (by rw [count]; simp; omega)
  have body := run_body running locked 1 (l := length) (rest := arrivals p [check] ++ more) (kind :: tag :: fields)
    ((s.part.port p).received ++ [syncByte] ++ [length]) [] (checkStep 0 length) (by simp) (by rw [count]; simp)
  have complete := run_check running locked more ((s.part.port p).received ++ [syncByte] ++ [length] ++ kind :: tag :: fields)
    length check kind tag fields
  rw [← checks] at body
  have whole := sync.trans (counted.trans (body.trans complete))
  have queue : arrivals p (syncByte :: length :: (kind :: tag :: fields ++ [check])) ++ more
      = arrivals p [syncByte] ++ (arrivals p [length] ++ (arrivals p (kind :: tag :: fields)
        ++ (arrivals p [check] ++ more))) := by simp [arrivals]
  have size : (syncByte :: length :: (kind :: tag :: fields ++ [check])).length
      = (kind :: tag :: fields).length + 2 + 1 := by simp
  have received : (s.part.port p).received ++ [syncByte] ++ [length] ++ kind :: tag :: fields ++ [check]
      = (s.part.port p).received ++ (syncByte :: length :: (kind :: tag :: fields ++ [check])) := by simp
  rw [← queue, ← size, received] at whole
  exact whole

end Sys2Proof.Machine
end

section
/-! Chapters 4, 6 and 7, the outbound share of a frame start (R57, R58, R61, R92, R94, R96, R102, R117): the store is
read, the frame begins on DOUTp, and the sender places its byte. -/

namespace Sys2Proof.Machine

open Sys2Proof

/-! ### The sender's share (R117) -/

/-- A channel after the sender has placed its byte and before waiting requests are taken (R112, R117). -/
def ControlChannel.afterPlacing (c : ControlChannel) : ControlChannel :=
  match c.sender, c.replies, c.notices with
  | some m, _, _ => { c with sender := m.after }
  | none, r :: rest, _ => { c with
      replies := rest, overrun := 0, sender := some ⟨framed (r.body c.overrun), 1, r.marked⟩ }
  | none, [], n :: rest => { c with notices := rest, sender := some ⟨framed n.body, 1, false⟩ }
  | none, [], [] => c

/-- The byte placed is the check byte of the marked reply (R118). -/
def ControlChannel.marks (c : ControlChannel) : Bool := c.sender.any fun m => m.marked && m.after.isNone

section
variable {c : ControlChannel}

theorem ControlChannel.afterPlacing_sending {m : Sending} (sending : c.sender = some m) :
    c.afterPlacing = { c with sender := m.after } := by
  simp [ControlChannel.afterPlacing, sending]

theorem ControlChannel.afterPlacing_reply {r : Reply} {rest : List Reply} (free : c.sender = none)
    (replies : c.replies = r :: rest) : c.afterPlacing = { c with
      replies := rest, overrun := 0, sender := some ⟨framed (r.body c.overrun), 1, r.marked⟩ } := by
  simp [ControlChannel.afterPlacing, free, replies]

theorem ControlChannel.afterPlacing_notice {n : QueuedNotice} {rest : List QueuedNotice} (free : c.sender = none)
    (replies : c.replies = []) (notices : c.notices = n :: rest) :
    c.afterPlacing = { c with notices := rest, sender := some ⟨framed n.body, 1, false⟩ } := by
  simp [ControlChannel.afterPlacing, free, replies, notices]

theorem ControlChannel.afterPlacing_idle (free : c.sender = none) (replies : c.replies = []) (notices : c.notices = []) :
    c.afterPlacing = c := by
  simp [ControlChannel.afterPlacing, free, replies, notices]

theorem ControlChannel.marks_free (free : c.sender = none) : c.marks = false := by simp [ControlChannel.marks, free]

/-- A message is over when its last byte is placed. -/
theorem Sending.after_isNone (m : Sending) : m.after.isNone = decide (m.message.length ≤ m.placed + 1) := by
  unfold Sending.after
  split
  · simp; omega
  · simp; omega

/-- What the sender places. -/
theorem ControlChannel.placed_spec :
    (∀ m, c.sender = some m → m.message[m.placed]? = some c.placed ∨ m.message.length ≤ m.placed)
      ∧ (c.sender = none → (c.replies ≠ [] ∨ c.notices ≠ []) → c.placed = 0xD2)
      ∧ (c.sender = none → c.replies = [] → c.notices = [] → c.placed = 0x00) := by
  refine ⟨fun m sending => ?_, fun free waits => ?_, fun free replies notices => ?_⟩
  · simp only [ControlChannel.placed, sending, Sending.next]
    by_cases inside : m.placed < m.message.length
    · simp [List.getD, inside]
    · exact .inr (Nat.le_of_not_lt inside)
  · unfold ControlChannel.placed
    split
    · simp_all
    · simp_all
    · rfl
  · simp only [ControlChannel.placed, free, replies, notices]

end

/-- The sender's share moves its channel and the mark of its port, where no waiting request is taken. -/
theorem Part.place_records {s : Part} {p : Port}
    (calm : (s.chan p).sender = none → (s.chan p).replies ≠ [] → (s.chan p).intake = []) :
    s.place p = { s with
      ports := s.ports.set p { s.port p with actionDue := (s.port p).actionDue || (s.chan p).marks }
      chans := s.chans.set p (s.chan p).afterPlacing } := by
  have unmarked : (s.chan p).sender = none →
      s.ports.set p { s.port p with actionDue := (s.port p).actionDue || (s.chan p).marks } = s.ports := fun free => by
    rw [ControlChannel.marks_free free, Bool.or_false]
    exact Bank.set_get_self ..
  cases sender : (s.chan p).sender with
  | some m =>
    rw [Part.place_sending _ sender, Part.sendNext_eq, ControlChannel.afterPlacing_sending sender, ControlChannel.marks,
      sender]
    rfl
  | none =>
    rw [unmarked sender]
    cases replies : (s.chan p).replies with
    | cons r rest =>
      rw [Part.place_reply _ sender replies (calm sender (by simp [replies])),
        ControlChannel.afterPlacing_reply sender replies]
      rfl
    | nil =>
      cases notices : (s.chan p).notices with
      | cons n rest =>
        rw [Part.place_notice _ sender replies notices, ControlChannel.afterPlacing_notice sender replies notices]
        rfl
      | nil =>
        rw [Part.place_idle _ sender replies notices, ControlChannel.afterPlacing_idle sender replies notices]
        exact congrArg (fun b => { s with chans := b }) (Bank.set_get_self ..).symm

/-! ### The outbound frame start before the sender's share (R57, R58, R96) -/

/-- A read of a primed, empty outbound store tells the other ports of a repeat (R61). -/
theorem Part.reached_outboundRepeat {s : Part} {p q : Port} (primed : (s.outStores.get p).primed = true)
    (empty : (s.outStores.get p).queue = []) (other : q ≠ p) (locked : s.inLock q = true)
    (masked : (s.chan q).mask.getLsbD 1 = true) : s.reached (s.readOutbound p) q
      (.slip p .outbound .repeated ((s.port p).counters.outRepeats + 1) s.exch.counter) := by
  unfold Part.readOutbound
  dsimp only
  rw [if_pos ((Store.readRepeats_iff _).mpr ⟨primed, empty⟩)]
  have read : s.calm { s with outStores := s.outStores.set p (s.outStores.get p).read } := Part.calm_of_eq rfl rfl
  exact Part.reached_between read (Part.reached_slip .outbound .repeated other locked masked) (Part.calm_refl _)

/-- The port as the frame begins on DOUTp. -/
def PortUnit.beginning (u : PortUnit) (st : Store) (c : ControlChannel) : PortUnit :=
  { u with
    dout := .frame u.dout.atEnd (sentFrame u.profile st.yield c.placed)
    counters := { u.counters with
      outRepeats := u.counters.outRepeats + (if st.primed = true ∧ st.queue = [] then 1 else 0) } }

/-- The part as the frame begins on DOUTp, with `o` owing, before the sender's share. -/
def Part.begun (s : Part) (p : Port) (o : Owing) : Part :=
  { s with
    ports := s.ports.set p { (s.port p).beginning (s.outStores.get p) (s.chan p) with owing := o }
    outStores := s.outStores.set p (s.outStores.get p).read
    chans := ((s.setOwing p o).readOutbound p).chans }

section
variable (s : Part) (p : Port) (o : Owing)

theorem Part.begun_port : (s.begun p o).port p
    = { (s.port p).beginning (s.outStores.get p) (s.chan p) with owing := o } := Bank.get_set_self ..

theorem Part.begun_chan : (s.begun p o).chan p = s.chan p := Part.readOutbound_chan_self (s.setOwing p o) p

/-- A read moves the store, the repeats of the port, and the channels by its SLIP. -/
theorem Part.readOutbound_records : s.readOutbound p = { s with
    ports := s.ports.set p { s.port p with counters := { (s.port p).counters with
      outRepeats := (s.port p).counters.outRepeats
        + (if (s.outStores.get p).primed = true ∧ (s.outStores.get p).queue = [] then 1 else 0) } }
    outStores := s.outStores.set p (s.outStores.get p).read
    chans := (s.readOutbound p).chans } := by
  by_cases repeats : (s.outStores.get p).readRepeats = true
  · rw [if_pos ((Store.readRepeats_iff _).mp repeats), Part.readOutbound, if_pos repeats]
    rfl
  · rw [if_neg (mt (Store.readRepeats_iff _).mpr repeats), add_zero, Part.readOutbound, if_neg repeats]
    exact congrArg (fun b => { s with ports := b, outStores := s.outStores.set p (s.outStores.get p).read })
      (Bank.set_get_self ..).symm

theorem Part.outboundStart_begun : (s.setOwing p o).outboundStart p = (s.begun p o).place p := by
  have read := (s.setOwing p o).readOutbound_records p
  have port : (s.setOwing p o).port p = { s.port p with owing := o } := Part.modifyPort_port_self ..
  rw [Part.outboundStart, read, port, Part.begun]
  simp [Part.modifyPort, Part.setOwing, Bank.modify]
  rfl

theorem Part.setOwing_calm : s.calm (s.setOwing p o) := by
  refine ⟨fun q => ?_, Part.notified_of_eq rfl⟩
  show (s.modifyPort p _).inLock q = s.inLock q
  rw [Part.inLock, Part.modifyPort_port]
  split <;> simp_all [Part.inLock]

theorem Part.begun_port_ne {q : Port} (hq : q ≠ p) : (s.begun p o).port q = s.port q := Bank.get_set_ne _ _ hq

theorem Part.begun_calm : s.calm (s.begun p o) := by
  refine ⟨fun q => ?_, Part.notified_trans (s.setOwing_calm p o).1 (s.setOwing_calm p o).2
    ((s.setOwing p o).readOutbound_notified p)⟩
  by_cases own : q = p
  · rw [own, Part.inLock, Part.begun_port]
    rfl
  · rw [Part.inLock, Part.begun_port_ne s p o own]
    rfl

variable {s p o}

theorem Part.begun_reached {q : Port} (primed : (s.outStores.get p).primed = true)
    (empty : (s.outStores.get p).queue = []) (other : q ≠ p) (locked : s.inLock q = true)
    (masked : (s.chan q).mask.getLsbD 1 = true) : s.reached (s.begun p o) q
      (.slip p .outbound .repeated ((s.port p).counters.outRepeats + 1) s.exch.counter) := by
  have port : (s.setOwing p o).port p = { s.port p with owing := o } := Part.modifyPort_port_self ..
  have told := Part.reached_outboundRepeat (s := s.setOwing p o) primed empty other
    (((s.setOwing_calm p o).1 q).trans locked) masked
  rw [port] at told
  show s.reached ((s.setOwing p o).readOutbound p) q _
  exact Part.reached_between (s.setOwing_calm p o) told (Part.calm_refl _)

/-! ### The outbound share -/

variable (s p o)

/-- The port after an outbound share. -/
def Part.sharePort : PortUnit :=
  { (s.port p).beginning (s.outStores.get p) (s.chan p) with
    owing := o, actionDue := (s.port p).actionDue || (s.chan p).marks }

variable {s p o} (free : (s.chan p).sender = none → (s.chan p).replies ≠ [] → (s.chan p).intake = [])
include free

/-- The whole outbound share, where no waiting request is taken: the port, its store, its channel and the notices. -/
theorem Part.outboundShare_eq : (s.setOwing p o).outboundStart p = { s with
    ports := s.ports.set p (s.sharePort p o)
    outStores := s.outStores.set p (s.outStores.get p).read
    chans := (s.begun p o).chans.set p (s.chan p).afterPlacing } := by
  rw [Part.outboundStart_begun, Part.place_records (by rw [Part.begun_chan]; exact free), Part.begun_chan,
    Part.begun_port]
  simp only [Part.begun, Bank.set_set]
  rfl

theorem Part.outboundShare_chan : ((s.setOwing p o).outboundStart p).chan p = (s.chan p).afterPlacing := by
  rw [Part.outboundShare_eq free]
  exact Bank.get_set_self ..

theorem Part.outboundShare_port : ((s.setOwing p o).outboundStart p).port p = s.sharePort p o := by
  rw [Part.outboundShare_eq free]
  exact Bank.get_set_self ..

theorem Part.outboundShare_chan_ne {q : Port} (hq : q ≠ p) :
    ((s.setOwing p o).outboundStart p).chan q = (s.begun p o).chan q := by
  rw [Part.outboundShare_eq free]
  exact Bank.get_set_ne _ _ hq

theorem Part.outboundShare_reached {q : Port} (primed : (s.outStores.get p).primed = true)
    (empty : (s.outStores.get p).queue = []) (other : q ≠ p) (locked : s.inLock q = true)
    (masked : (s.chan q).mask.getLsbD 1 = true) : s.reached ((s.setOwing p o).outboundStart p) q
      (.slip p .outbound .repeated ((s.port p).counters.outRepeats + 1) s.exch.counter) := by
  have told := Part.begun_reached (o := o) primed empty other locked masked
  unfold Part.reached at told ⊢
  rwa [Part.outboundShare_chan_ne free other]

theorem Part.outboundShare_joined : s.onlyNoticesJoined { (s.setOwing p o).outboundStart p with
    chans := ((s.setOwing p o).outboundStart p).chans.set p (s.chan p) } := by
  have same : (s.begun p o).chans.set p (s.chan p) = (s.begun p o).chans := by
    rw [← s.begun_chan p o]
    exact Bank.set_get_self ..
  rw [Part.outboundShare_eq free]
  dsimp only
  rw [Bank.set_set, same]
  exact Part.onlyNoticesJoined_of_notified (s.begun_calm p o).2

end

/-! ### Which frame ends take the share (R92, R94, R102) -/

section
variable {u : PortUnit} {pulse : Bool}

theorem PortUnit.replyEnd_iff (owing : u.owing ≠ .completion) :
    u.replyEnd = true ↔ u.actionDue = true ∧ u.action ≠ none := by
  simp [PortUnit.replyEnd, owing, Option.isSome_iff_ne_none]

theorem PortUnit.startsFrame_stays (owing : u.owing = .nothing) (pending : ¬ (u.actionDue = true ∧ u.action ≠ none))
    (stays : u.endsWell pulse ∨ u.lock = .locked ∨ u.lock = .coast 1 ∨ u.lock = .coast 2) :
    u.startsFrame pulse = true := by
  have open_ : u.owing ≠ .completion := by rw [owing]; decide
  have reply : u.replyEnd = false := Bool.eq_false_iff.mpr (mt (PortUnit.replyEnd_iff open_).mp pending)
  have fourth : u.fourthBad (u.goodEnd pulse) = false := by
    rcases stays with well | l | l | l
    · simp [PortUnit.fourthBad, (PortUnit.goodEnd_iff pulse open_).mpr well]
    all_goals simp [PortUnit.fourthBad, l, LockState.lastCoast]
  simp [PortUnit.startsFrame, reply, fourth]

theorem PortUnit.startsFrame_not (owing : u.owing = .nothing)
    (ends : (u.actionDue = true ∧ u.action ≠ none) ∨ (u.lock = .coast 3 ∧ ¬ u.endsWell pulse)) :
    u.startsFrame pulse = false := by
  have open_ : u.owing ≠ .completion := by rw [owing]; decide
  rcases ends with pending | ⟨last, bad⟩
  · simp [PortUnit.startsFrame, (PortUnit.replyEnd_iff open_).mpr pending]
  · have good : u.goodEnd pulse = false := Bool.eq_false_iff.mpr (mt (PortUnit.goodEnd_iff pulse open_).mp bad)
    simp [PortUnit.startsFrame, PortUnit.fourthBad, good, last, LockState.lastCoast]

end

/-- A share of a frame end. -/
def Part.frameShare (s : Part) (p : Port) (pulse : Bool) (rest : List Byte) : FrameShare → Part
  | .whole => s.wholeEnd p pulse rest
  | .completion => s.completionShare p pulse rest
  | .start => s.startShare p pulse

/-- What is owing once an outbound share is taken. -/
def Owing.taken (o : Owing) : Owing := if o = .start then .nothing else .completion

section
variable {s : State} {p : Port} (running : s.part.inReset = false) (locked : s.part.inLock p = true)
include running locked

theorem exec_frameEnd (pulse : Bool) (rest : List Byte) (share : FrameShare) :
    exec (.frameEnd p pulse rest share) s = .next { s with part := s.part.frameShare p pulse rest share } := by
  refine (State.answer_running running _).trans ?_
  rw [if_pos locked]
  rfl

theorem exec_replyStart (free : (s.part.chan p).sender = none) (replies : (s.part.chan p).replies ≠ []) :
    exec (.replyStart p) s = .next { s with part := s.part.startShare p true } := by
  refine (State.answer_running running _).trans ?_
  dsimp only
  rw [if_pos (by simp [locked, free, replies])]

theorem exec_noticeStart (free : (s.part.chan p).sender = none) (replies : (s.part.chan p).replies = [])
    (notices : (s.part.chan p).notices ≠ []) :
    exec (.noticeStart p) s = .next { s with part := s.part.startShare p true } := by
  refine (State.answer_running running _).trans ?_
  dsimp only
  rw [if_pos (by simp [locked, free, replies, notices])]

end

/-- The outbound share at a frame start, owing or ahead of the completion. -/
theorem Part.startShare_taken {s : Part} {p : Port} {pulse : Bool}
    (starts : (s.port p).owing = .start ∨ ((s.port p).owing = .nothing ∧ (s.port p).startsFrame pulse = true)) :
    s.startShare p pulse = (s.setOwing p (s.port p).owing.taken).outboundStart p := by
  rcases starts with owing | ⟨owing, starts⟩
  · rw [Part.startShare_owing _ _ owing, owing]
    rfl
  · rw [Part.startShare_ahead _ owing starts, owing]
    rfl

/-- What the frame carries, by the store (R57, R58). -/
theorem sentFrame_spec (f : Profile) (st : Store) (control : Byte) :
    (∀ g more, st.primed = true → st.queue = g :: more → sentFrame f st.yield control = g.set f.control control)
      ∧ (∀ g, st.primed = true → st.queue = [] → st.last = some g →
        sentFrame f st.yield control = g.set f.control control)
      ∧ (st.primed = false →
        sentFrame f st.yield control = (List.replicate f.slots f.fill).set f.control control) := by
  refine ⟨fun g more primed queue => ?_, fun g primed empty last => ?_, fun unprimed => ?_⟩
  · rw [sentFrame, (Store.read_head primed queue).1]
    rfl
  · rw [sentFrame, (Store.read_empty primed empty).1, last]
    rfl
  · rw [sentFrame, (Store.read_unprimed unprimed).1]
    rfl

/-- Settles O23: when the share is taken, and its records. -/
theorem outboundFrameStartsSendOneFrame : Obligations.OutboundFrameStartsSendOneFrame := by
  intro p pulse rest s running locked u old c outcome replyEnd startsFrame
  have shares : outcome = .next { s with part := s.part.startShare p pulse } :=
    exec_frameEnd running locked pulse rest .start
  clear_value outcome
  subst shares
  have taken : u.owing = .start ∨ (u.owing = .nothing ∧ startsFrame) →
      ∀ pulse', (pulse' = pulse ∨ pulse' = true) →
        s.part.startShare p pulse' = (s.part.setOwing p u.owing.taken).outboundStart p := by
    intro starts pulse' hp
    refine Part.startShare_taken (starts.imp id fun ⟨owing, pending, stays⟩ => ⟨owing, ?_⟩)
    refine PortUnit.startsFrame_stays owing pending ?_
    rcases hp with rfl | rfl
    · exact stays
    · exact stays.imp (fun well => ⟨rfl, well.2⟩) id
  have untaken : u.owing ≠ .start → (u.owing = .nothing → u.startsFrame pulse = false) →
      s.part.startShare p pulse = s.part := fun owing ends => Part.startShare_none _ owing ends
  refine ⟨fun owing => ?_, fun owing ends => ?_, fun starts free replies => ?_, fun starts free => ?_⟩
  · rw [untaken (by rw [owing]; decide) fun nothing => by rw [owing] at nothing; cases nothing]
  · rw [untaken (by rw [owing]; decide) fun _ => PortUnit.startsFrame_not owing ends]
  · rw [exec_replyStart running locked free replies, taken starts _ (.inl rfl), taken starts _ (.inr rfl)]
  · rw [taken starts _ (.inl rfl)]
    have chan := Part.outboundShare_chan (o := u.owing.taken) free
    have port := Part.outboundShare_port (o := u.owing.taken) free
    have eq := Part.outboundShare_eq (o := u.owing.taken) free
    have joined := Part.outboundShare_joined (o := u.owing.taken) free
    have reached := fun q => Part.outboundShare_reached (o := u.owing.taken) free (q := q)
    have outStores := congrArg Part.outStores eq
    obtain ⟨placed, sync, idle⟩ := (s.part.chan p).placed_spec
    refine ⟨_, rfl, rfl, ?_⟩
    dsimp only
    have runs : ((s.part.setOwing p u.owing.taken).outboundStart p).inReset = false := by rw [eq]; exact running
    have stays : ((s.part.setOwing p u.owing.taken).outboundStart p).inLock p = true := by
      rw [Part.inLock, port]
      exact locked
    have settles : u.owing = .start → s.part.settleStart p = (s.part.setOwing p u.owing.taken).outboundStart p :=
      fun owing => by
        rw [Part.settleStart, if_pos owing, owing]
        rfl
    generalize (s.part.setOwing p u.owing.taken).outboundStart p = t at *
    have frame := sentFrame_spec u.profile old (s.part.chan p).placed
    have dout : (t.port p).dout = .frame u.dout.atEnd (sentFrame u.profile old.yield (s.part.chan p).placed) := by
      rw [port]
      rfl
    refine ⟨fun unprimed => ?_, fun primed empty => ?_, fun f more primed queue => ?_, by rw [port]; rfl, fun primed empty q =>
      reached q primed empty, ?_, joined, ?_, ⟨_, ?_, ?_, ?_, ?_, placed, sync, idle⟩, fun m sending => ⟨?_, ?_⟩,
      fun free => ?_, fun free replies notices => ?_, fun owing share part => ?_⟩
    · rw [outStores, (Store.read_unprimed unprimed).2]
      exact Bank.set_get_self ..
    · rw [outStores, (Store.read_empty primed empty).2]
      exact Bank.set_get_self ..
    · rw [outStores, (Store.read_head primed queue).2]
    · rw [port]
      rfl
    · rw [port, outStores]
      exact eq.trans (by rw [eq])
    · exact fun f more primed queue => by rw [dout, frame.1 f more primed queue]
    · exact fun f primed empty last => by rw [dout, frame.2.1 f primed empty last]
    · exact fun unprimed => by rw [dout, frame.2.2 unprimed]
    · exact fun before f b carries => by rw [carries, Dout.atEnd_frame]
    · rw [chan, ControlChannel.afterPlacing_sending sending]
      rfl
    · rw [port]
      show ((s.part.port p).actionDue || (s.part.chan p).marks) = _
      rw [ControlChannel.marks, sending, ← Sending.after_isNone]
      rfl
    · rw [port]
      show ((s.part.port p).actionDue || (s.part.chan p).marks) = _
      rw [ControlChannel.marks_free free, Bool.or_false]
    · rw [chan, ControlChannel.afterPlacing_idle free replies notices]
    · rw [exec_frameEnd running locked, exec_frameEnd (s := ⟨t, s.pending⟩) runs stays]
      have settled : t.settleStart p = t := by
        rw [Part.settleStart, if_neg (by rw [port]; show ¬ u.owing.taken = .start; rw [owing]; decide)]
      cases share with
      | start => exact absurd rfl part
      | completion =>
        simp only [Part.frameShare, Part.completionShare, settles owing, settled]
      | whole =>
        simp only [Part.frameShare, Part.wholeEnd, Part.completionShare, settles owing, settled]

end Sys2Proof.Machine
end

section
/-! Chapter 7, REPLY_START and NOTICE_START (R106, R111, R112, R117, R123 to R125, R128, R131): the message that a free
sender begins, and the requests taken in the place that a reply frees. -/

namespace Sys2Proof.Machine

open Sys2Proof

/-! ### Requests taken at the start of a reply (R111) -/

/-- What a slip of a store of port `p` tells. -/
def Part.slipNotice (s : Part) (p : Port) (d : Direction) (k : SlipKind) : Notice :=
  .slip p d k (((s.port p).counters.addSlip d k).slips d k) s.exch.counter

theorem Part.slip_chan (s : Part) (p q : Port) (d : Direction) (k : SlipKind) :
    (s.slip p d k).chan q =
      if s.inLock q && (some p != some q && (s.chan q).mask.getLsbD 1) then (s.chan q).enqueue (s.slipNotice p d k)
      else s.chan q := by
  have count : ((s.count p fun c => c.addSlip d k).port p).counters = (s.port p).counters.addSlip d k := by
    rw [Part.count_port, if_pos rfl]
  have inLock : (s.count p fun c => c.addSlip d k).inLock q = s.inLock q := s.count_inLock p q _
  rw [← inLock]
  unfold Part.slip Part.slipNotice
  dsimp only
  rw [count, Part.raise_chan]
  rfl

/-- A read of a store tells a port alike where its channel and the rest are alike. -/
theorem Part.readOutbound_chan_congr {s t : Part} {p q : Port} (ports : t.ports = s.ports)
    (stores : t.outStores = s.outStores) (exch : t.exch = s.exch) (chan : t.chan q = s.chan q) :
    (t.readOutbound p).chan q = (s.readOutbound p).chan q := by
  have port : ∀ x, t.port x = s.port x := fun x => by rw [Part.port, Part.port, ports]
  unfold Part.readOutbound
  dsimp only
  rw [stores]
  split
  · rw [Part.slip_chan, Part.slip_chan]
    simp only [Part.slipNotice]
    show (if (t.port q).lock.inLock && (_ && (t.chan q).mask.getLsbD 1)
        then (t.chan q).enqueue (.slip _ _ _ (((t.port p).counters.addSlip _ _).slips _ _) t.exch.counter)
        else t.chan q)
      = if (s.port q).lock.inLock && (_ && (s.chan q).mask.getLsbD 1)
        then (s.chan q).enqueue (.slip _ _ _ (((s.port p).counters.addSlip _ _).slips _ _) s.exch.counter)
        else s.chan q
    rw [chan, port, port, exch]
  · exact chan

section
variable (s : Part) (p : Port) (o : Owing)

/-- The part with these messages in the intake of port `p`. -/
def Part.withIntake (s : Part) (p : Port) (bodies : List (List Byte)) : Part :=
  { s with chans := s.chans.set p { s.chan p with intake := bodies } }

theorem Part.withIntake_chan (bodies : List (List Byte)) :
    (s.withIntake p bodies).chan p = { s.chan p with intake := bodies } := Bank.get_set_self ..

/-- The intake of a channel makes no difference to a read of its port's store. -/
theorem Part.begun_withIntake (bodies : List (List Byte)) :
    (s.withIntake p bodies).begun p o = (s.begun p o).withIntake p bodies := by
  have chans : (((s.withIntake p bodies).setOwing p o).readOutbound p).chans
      = (((s.setOwing p o).readOutbound p).chans).set p { s.chan p with intake := bodies } := by
    refine Bank.ext_get fun q => ?_
    by_cases own : q = p
    · subst own
      rw [Bank.get_set_self]
      exact (Part.readOutbound_chan_self ((s.withIntake q bodies).setOwing q o) q).trans (s.withIntake_chan q bodies)
    · rw [Bank.get_set_ne _ _ own]
      exact Part.readOutbound_chan_congr rfl rfl rfl (Bank.get_set_ne _ _ own)
  have chan := s.begun_chan p o
  have placed : ({ s.chan p with intake := bodies } : ControlChannel).placed = (s.chan p).placed := rfl
  rw [Part.withIntake.eq_def (s.begun p o), chan, Part.begun.eq_def (s.withIntake p bodies), chans, Part.withIntake_chan]
  simp only [PortUnit.beginning, placed]
  rfl

/-- The start of a reply at a channel. -/
def ControlChannel.replying (c : ControlChannel) (r : Reply) (rest : List Reply) : ControlChannel :=
  { c with replies := rest, overrun := 0, sender := some ⟨framed (r.body c.overrun), 1, r.marked⟩ }

variable {s p o} {r : Reply} {rest : List Reply} (free : (s.chan p).sender = none)
  (replies : (s.chan p).replies = r :: rest)
include free replies

/-- The outbound share that starts a reply: that at an empty intake, and then the taking. -/
theorem Part.outboundStart_reply (bodies : List (List Byte)) :
    (s.withIntake p bodies |>.setOwing p o).outboundStart p
      = (((s.withIntake p []).setOwing p o).outboundStart p |>.withIntake p bodies).takeWaiting p intakeSize := by
  have placed : ∀ bodies : List (List Byte), ((s.withIntake p bodies).setOwing p o).outboundStart p
      = (((s.begun p o).withIntake p bodies).modifyChan p fun c => c.replying r rest).takeWaiting p intakeSize := by
    intro bodies
    have chan : ((s.begun p o).withIntake p bodies).chan p = { s.chan p with intake := bodies } := by
      rw [Part.withIntake_chan, Part.begun_chan]
    rw [Part.outboundStart_begun, Part.begun_withIntake, Part.place, chan]
    dsimp only
    rw [free, replies]
    rfl
  have none : ((((s.begun p o).withIntake p []).modifyChan p fun c => c.replying r rest).chan p).intake = [] := by
    rw [Part.modifyChan_chan_self, Part.withIntake_chan]
    rfl
  rw [placed [], Part.takeWaiting_nil _ p _ none, placed bodies]
  simp [Part.withIntake, Part.modifyChan, Bank.modify, ControlChannel.replying, Part.chan]

end

/-- A message that completes at a channel with an empty intake queue. -/
theorem Part.messageComplete_empty {s : Part} {p : Port} (body : List Byte) (empty : (s.chan p).intake = []) :
    s.messageComplete p body = (s.withIntake p [body]).takeWaiting p intakeSize := by
  rw [Part.messageComplete, if_pos (by rw [empty]; decide)]
  congr 1
  show ({ s with chans := s.chans.set p { s.chan p with intake := (s.chan p).intake ++ [body] } } : Part) = _
  rw [empty]
  rfl

/-- Of two messages that wait at three replies the first is taken, and the second waits on (R111). -/
theorem Part.takeWaiting_one {s : Part} {p : Port} {kind tag : Byte} {fields second : List Byte}
    (three : (s.chan p).replies.length = 3) :
    (s.withIntake p [kind :: tag :: fields, second]).takeWaiting p intakeSize
      = (s.withIntake p [second]).answerMessage p (kind :: tag :: fields) := by
  have rest : (s.withIntake p [kind :: tag :: fields, second]).modifyChan p (fun c => { c with intake := [second] })
      = s.withIntake p [second] := by
    simp [Part.withIntake, Part.modifyChan, Bank.modify]
  obtain ⟨r, -, replies, -⟩ := (s.withIntake p [second]).answerMessage_reply p kind tag fields
  have intake := (s.withIntake p [second]).answerMessage_intake p p (kind :: tag :: fields)
  rw [Part.withIntake_chan] at replies intake
  rw [show intakeSize = 1 + 1 from rfl, Part.takeWaiting, Part.withIntake_chan]
  dsimp only
  rw [if_pos (by rw [three]; decide), rest, Part.takeWaiting, intake]
  dsimp only
  rw [if_neg (by rw [replies]; simp [three])]

section
variable {s : State} {p : Port} (running : s.part.inReset = false) (locked : s.part.inLock p = true)
  (free : (s.part.chan p).sender = none) {r : Reply} {more : List Reply}
  (replies : (s.part.chan p).replies = r :: more)
  (starts : (s.part.port p).owing = .start
    ∨ ((s.part.port p).owing = .nothing ∧ (s.part.port p).startsFrame true = true))
include running locked free replies starts

/-- REPLY_START where requests wait: that with an empty intake queue, and then the taking. -/
theorem exec_replyStart_takes : ∃ t : Part,
    exec (.replyStart p) { s with part := s.part.withIntake p [] } = .next { s with part := t }
      ∧ exec (.replyStart p) s
        = .next { s with part := (t.withIntake p (s.part.chan p).intake).takeWaiting p intakeSize }
      ∧ t.inReset = false ∧ t.inLock p = true ∧ (t.chan p).intake = [] ∧ (t.chan p).replies = more := by
  have chan := s.part.withIntake_chan p []
  have calm : ((s.part.withIntake p []).chan p).sender = none → ((s.part.withIntake p []).chan p).replies ≠ [] →
      ((s.part.withIntake p []).chan p).intake = [] := fun _ _ => by rw [chan]
  have port := Part.outboundShare_port (o := (s.part.port p).owing.taken) calm
  have eq := Part.outboundShare_eq (o := (s.part.port p).owing.taken) calm
  have after := Part.outboundShare_chan (o := (s.part.port p).owing.taken) calm
  have started := Part.startShare_taken (s := s.part.withIntake p []) starts
  have placing := after.trans (ControlChannel.afterPlacing_reply (r := r) (rest := more) (by rw [chan]; exact free)
    (by rw [chan]; exact replies))
  rw [chan] at placing
  have whole : s.part.withIntake p (s.part.chan p).intake = s.part :=
    congrArg (fun b => { s.part with chans := b }) (Bank.set_get_self ..)
  have taken := Part.outboundStart_reply (o := (s.part.port p).owing.taken) free replies (s.part.chan p).intake
  rw [whole] at taken
  refine ⟨((s.part.withIntake p []).setOwing p (s.part.port p).owing.taken).outboundStart p, ?_, ?_, ?_, ?_, ?_, ?_⟩
  · rw [exec_replyStart (s := { s with part := s.part.withIntake p [] }) running locked (by rw [chan]; exact free)
      (by rw [chan]; simp [replies])]
    exact congrArg (fun v => Host.Outcome.next (State.mk v s.pending)) started
  · rw [exec_replyStart running locked free (by simp [replies]), Part.startShare_taken starts, taken]
  · rw [eq]
    exact running
  · rw [Part.inLock, port]
    exact locked
  · rw [placing]
  · rw [placing]

end

/-- Settles O24: the outbound share at a free sender, its message, and the requests taken in the freed place. -/
theorem repliesAndNoticesStart : Obligations.RepliesAndNoticesStart := by
  intro p s running locked free u old c startsFrame sends checked message status two orNone lockState portCause mode
    refReason channelState notice starts
  have notices : ∀ x : QueuedNotice, notice x = x.body := by
    have twoHalf : ∀ h : Half, two h.toNat = be16 h := fun h => (be16_eq h).symm
    have twoNat : ∀ n : Nat, two n = be16Nat n := fun n => (be16Nat_eq n).symm
    have isLockState : lockState = LockState.code := by funext x; cases x <;> rfl
    have isPortCause : portCause = PortCause.code := by funext x; cases x <;> rfl
    have isMode : mode = RefMode.code := by funext x; cases x <;> rfl
    have isReason : refReason = RefReason.code := by funext x; cases x <;> rfl
    have isPort : orNone = optPortCode := by funext x; cases x <;> rfl
    have isChannel : ∀ x, channelState x = [x.code, x.haltCode] := by
      intro x
      rcases x with _ | _ | _ | _ | _ | _ | _ | _ <;> rfl
    rintro ⟨n, lost⟩
    cases n with
    | portState q before after cause losses frame => simp only [notice, twoHalf, isLockState, isPortCause]; rfl
    | slip q direction kind count frame =>
      simp only [notice, twoHalf]
      cases direction <;> cases kind <;> rfl
    | reference m tracked candidate reason held frame =>
      simp only [notice, twoHalf, twoNat, isMode, isReason, isPort]; rfl
    | claimsFreed former released => simp only [notice, twoNat]; rfl
    | applied owner generation frame edits => simp only [notice, twoHalf]; rfl
    | applyCancelled owner reason target =>
      cases target <;> cases reason <;> simp only [notice, twoHalf] <;> rfl
    | playback k state pattern frame =>
      simp only [notice, twoHalf, isChannel]
      cases pattern <;> rfl
    | memory event halted frame =>
      simp only [notice, twoHalf]
      cases event <;> rfl
  have messages : ∀ body, message body = framed body := by
    have steps : checked = checkStep := funext fun v => funext fun b => (checkStep_eq v b).symm
    intro body
    simp only [message, steps]
    rfl
  have replyBody : ∀ (r : Reply) (overrun : Byte),
      r.kind :: r.tag :: status r.status :: overrun :: r.fields = r.body overrun := by
    intro r overrun
    have isStatus : status r.status = r.status.code := by cases r.status <;> rfl
    rw [isStatus]
    rfl
  clear_value notice message status
  have stays : u.owing = .nothing → u.startsFrame true = true := fun owing =>
    starts.elim (fun h => by rw [owing] at h; cases h) fun h =>
      PortUnit.startsFrame_stays owing h.2.1 (h.2.2.imp (fun clean => ⟨rfl, clean⟩) id)
  have share : s.part.startShare p true = (s.part.setOwing p u.owing.taken).outboundStart p :=
    Part.startShare_taken (starts.imp id fun h => ⟨h.1, stays h.1⟩)
  have same : ∀ pulse : Bool, u.owing = .start ∨ pulse = true → s.part.startShare p pulse = s.part.startShare p true := by
    rintro pulse (owing | rfl)
    · rw [Part.startShare_owing _ _ owing, Part.startShare_owing _ _ owing]
    · rfl
  have sent : (c.replies ≠ [] → c.intake = []) → (c.replies ≠ [] ∨ c.notices ≠ []) →
      sends { s with part := s.part.startShare p true } c.afterPlacing := by
    intro calm waits
    have share_free : (s.part.chan p).sender = none → (s.part.chan p).replies ≠ [] → (s.part.chan p).intake = [] :=
      fun _ => calm
    have port := Part.outboundShare_port (o := u.owing.taken) share_free
    have eq := Part.outboundShare_eq (o := u.owing.taken) share_free
    have sync : c.placed = 0xD2 := ControlChannel.placed_spec.2.1 free waits
    rw [share]
    refine ⟨rfl, Part.outboundShare_chan share_free, ?_, congrArg Part.outStores eq, Part.outboundShare_joined share_free, ?_⟩
    · dsimp only
      rw [port, ← sync]
      show (_ : PortUnit) = _
      rw [Part.sharePort, ControlChannel.marks_free free, Bool.or_false]
      rfl
    · dsimp only
      rw [port]
      exact eq.trans (by rw [eq])
  refine ⟨fun pulse rest taken => ⟨fun replies => ?_, fun replies notices => ?_⟩, fun r more replies empty => ?_,
    fun n more replies notices => ?_, fun kind tag fields replies intake => ?_, fun kind tag fields second full intake => ?_⟩
  · rw [exec_frameEnd running locked, exec_replyStart running locked free replies, Part.frameShare, same pulse taken]
  · rw [exec_frameEnd running locked, exec_noticeStart running locked free replies notices, Part.frameShare,
      same pulse taken]
  · refine ⟨_, exec_replyStart running locked free (by rw [replies]; simp), ?_⟩
    rw [messages, replyBody, ← ControlChannel.afterPlacing_reply free replies]
    exact sent (fun _ => empty) (.inl (by rw [replies]; simp))
  · refine ⟨_, exec_noticeStart running locked free replies (by rw [notices]; simp), ?_⟩
    rw [messages, ‹∀ x, notice x = x.body›, ← ControlChannel.afterPlacing_notice free replies notices]
    exact sent (fun h => absurd replies h) (.inr (by rw [notices]; simp))
  · obtain ⟨r, more, waits⟩ := List.exists_cons_of_ne_nil replies
    obtain ⟨t, first, whole, runs, inLock, empty, -⟩ := exec_replyStart_takes running locked free waits
      (starts.imp id fun h => ⟨h.1, stays h.1⟩)
    have request : exec (.unknownKind p kind tag fields) { s with part := t }
        = .next { s with part := t.messageComplete p (kind :: tag :: fields) } := by
      refine (State.answer_running runs _).trans ?_
      rw [if_pos inLock]
    refine ⟨_, first, whole.trans ?_⟩
    rw [request, Part.messageComplete_empty _ empty]
    exact congrArg (fun x => Host.Outcome.next (State.mk ((t.withIntake p x).takeWaiting p intakeSize) s.pending)) intake
  · obtain ⟨r, more, waits⟩ := List.exists_cons_of_ne_nil (l := c.replies) (by rintro none; simp [none] at full)
    obtain ⟨t, first, whole, -, -, empty, left⟩ := exec_replyStart_takes running locked free waits
      (starts.imp id fun h => ⟨h.1, stays h.1⟩)
    have three : (t.chan p).replies.length = 3 := by
      rw [left]
      simpa [waits] using full
    obtain ⟨reply, -, joined, tagged, named⟩ := (t.withIntake p [second]).answerMessage_reply p kind tag fields
    have intakes := (t.withIntake p [second]).answerMessage_intake p p (kind :: tag :: fields)
    rw [Part.withIntake_chan] at joined intakes
    rw [show (s.part.chan p).intake = [kind :: tag :: fields, second] from intake, Part.takeWaiting_one three] at whole
    refine ⟨_, _, first, whole, rfl, rfl, intakes, reply, ?_, tagged, named⟩
    rw [joined, waits]
    exact congrArg (· ++ [reply]) left

end Sys2Proof.Machine
end

section
/-! Chapters 4 to 6, the inbound share of a frame end that is a frame start (R53, R55, R61, R74, R92, R93, R94). -/

namespace Sys2Proof.Machine

open Sys2Proof

/-! ### The write of the inbound store (R53, R55, R61) -/

/-- A frame of the right length is written as it is. -/
theorem fitBytes_whole {n seed : Nat} {bytes : List Byte} (whole : bytes.length = n) :
    fitBytes n seed bytes = bytes ∧ freeAfter n seed bytes = seed := by
  subst whole
  simp [fitBytes, freeAfter]

/-- The writer event, written out (R55). -/
theorem Store.write_eq (st : Store) (f : Frame) : st.write f = { st with
    queue := (if st.queue.length < 4 then st.queue else st.queue.tail) ++ [f]
    primed := st.primed
      || decide (st.depth.toNat ≤ ((if st.queue.length < 4 then st.queue else st.queue.tail) ++ [f]).length) } := by
  have kept : (if st.writeDrops then st.queue.tail else st.queue)
      = if st.queue.length < 4 then st.queue else st.queue.tail := by
    by_cases room : st.queue.length < 4
    · rw [if_neg (by simpa [Store.writeDrops] using room), if_pos room]
    · rw [if_pos (by simpa [Store.writeDrops] using room), if_neg room]
  rw [Store.write, kept]

section
variable {s : Part} {p : Port}

/-- A write moves the store, the drops of the port, and the channels by its SLIP. -/
theorem Part.writeInbound_records (f : Frame) : s.writeInbound p f = { s with
    ports := s.ports.set p { s.port p with counters := { (s.port p).counters with
      inDrops := (s.port p).counters.inDrops + (if (s.inStores.get p).queue.length ≥ 4 then 1 else 0) } }
    inStores := s.inStores.set p ((s.inStores.get p).write f)
    chans := (s.writeInbound p f).chans } := by
  by_cases drops : (s.inStores.get p).queue.length ≥ 4
  · have full : (s.inStores.get p).writeDrops = true := by simpa [Store.writeDrops] using drops
    rw [if_pos drops, Part.writeInbound, if_pos full]
    rfl
  · have room : ¬ (s.inStores.get p).writeDrops = true := by simpa [Store.writeDrops] using drops
    rw [if_neg drops, add_zero, Part.writeInbound, if_neg room]
    exact congrArg (fun b => { s with ports := b, inStores := s.inStores.set p ((s.inStores.get p).write f) })
      (Bank.set_get_self ..).symm

theorem Part.writeInbound_calm (f : Frame) : s.calm (s.writeInbound p f) := by
  refine ⟨fun q => ?_, s.writeInbound_notified p f⟩
  rw [Part.inLock, Part.writeInbound_port]
  split <;> simp_all [Part.inLock]

/-- A write to a full inbound store tells the other ports of a drop. -/
theorem Part.reached_inboundDrop {q : Port} (f : Frame) (drops : (s.inStores.get p).queue.length ≥ 4) (other : q ≠ p)
    (locked : s.inLock q = true) (masked : (s.chan q).mask.getLsbD 1 = true) : s.reached (s.writeInbound p f) q
      (.slip p .inbound .dropped ((s.port p).counters.inDrops + 1) s.exch.counter) := by
  have full : (s.inStores.get p).writeDrops = true := by simpa [Store.writeDrops] using drops
  unfold Part.writeInbound
  dsimp only
  rw [if_pos full]
  have written : s.calm { s with inStores := s.inStores.set p ((s.inStores.get p).write f) } := Part.calm_of_eq rfl rfl
  exact Part.reached_between written (Part.reached_slip .inbound .dropped other locked masked) (Part.calm_refl _)

end

/-! ### The judgement of the frame (R92, R93) -/

/-- The part with the frame judged, before the reference unit hears of it. -/
def Part.judgedAs (s : Part) (p : Port) (good : Bool) : Part :=
  { s with
    ports := s.ports.set p { s.port p with
      lock := (s.port p).lock.afterEnd good, position := 0, misplaced := false, received := []
      counters := { (s.port p).counters with
        badFrames := (s.port p).counters.badFrames + (if good then 0 else 1) } }
    claims := { s.claims with lapse := if (s.port p).lock ≠ .locked ∧ good = true then s.claims.lapse.set p 0
      else s.claims.lapse } }

section
variable {s : Part} {p : Port} {good : Bool}

theorem LockState.afterEnd_locked_iff (l : LockState) : l.afterEnd good = .locked ↔ good = true := by
  unfold LockState.afterEnd
  split
  · simp_all
  · split <;> simp_all

theorem LockState.afterEnd_inLock (l : LockState) : (l.afterEnd good).inLock = true := by
  unfold LockState.afterEnd
  split
  · rfl
  · split <;> rfl

/-- The table of R92. -/
theorem LockState.afterEnd_bad : LockState.locked.afterEnd false = .coast 1
    ∧ (LockState.coast 1).afterEnd false = .coast 2 ∧ (LockState.coast 2).afterEnd false = .coast 3 := ⟨rfl, rfl, rfl⟩

theorem Part.judged_port : (s.judged p good).port p = { s.port p with
    counters := { (s.port p).counters with
      badFrames := (s.port p).counters.badFrames + (if good then 0 else 1) } } := by
  cases good
  · exact Part.modifyPort_port_self ..
  · simp [Part.judged]

theorem Part.judged_modifyPort (f : PortUnit → PortUnit) : (s.judged p good).modifyPort p f =
    { s with ports := s.ports.set p (f ((s.judged p good).port p)) } := by
  cases good
  · simp [Part.judged, Part.count, Part.modifyPort, Bank.modify, Part.port]
  · rfl

theorem Part.judgedAs_eq : ((s.judged p good).modifyPort p fun u => { u with
    lock := (s.port p).lock.afterEnd good, position := 0, misplaced := false, received := [] }).lapseAtEnd p
      (s.port p).lock ((s.port p).lock.afterEnd good) = s.judgedAs p good := by
  have enters : ((s.port p).lock ≠ .locked ∧ (s.port p).lock.afterEnd good = .locked)
      ↔ ((s.port p).lock ≠ .locked ∧ good = true) := and_congr_right fun _ => LockState.afterEnd_locked_iff _
  rw [Part.judged_modifyPort, Part.judged_port, Part.lapseAtEnd, Part.judgedAs]
  simp only [enters]
  split <;> rfl

/-- The frame start of a whole frame of bytes: judged, heard of by the reference unit, and written. -/
theorem Part.judged_completeFrame {rest : List Byte}
    (whole : ((s.port p).received ++ rest).length = (s.port p).profile.slots) :
    (s.judged p good).completeFrame p good rest =
      ((s.judgedAs p good).lockChanged p (s.port p).lock ((s.port p).lock.afterEnd good)).writeInbound p
        ((s.port p).received ++ rest) := by
  have lock : ((s.judged p good).port p).lock = (s.port p).lock := by rw [Part.judged_port]
  have received : ((s.judged p good).port p).received = (s.port p).received := by rw [Part.judged_port]
  have profile : ((s.judged p good).port p).profile = (s.port p).profile := by rw [Part.judged_port]
  unfold Part.completeFrame
  dsimp only
  rw [lock, received, profile, Part.judgedAs_eq, (fitBytes_whole whole).1, (fitBytes_whole whole).2]

/-- The judgement leaves the port in lock, and the channels alone. -/
theorem Part.judgedAs_calm (locked : s.inLock p = true) : s.calm (s.judgedAs p good) := by
  refine ⟨fun q => ?_, Part.notified_of_eq rfl⟩
  by_cases own : q = p
  · subst own
    rw [locked, Part.inLock, Part.port, Part.judgedAs, Bank.get_set_self]
    exact LockState.afterEnd_inLock _
  · rw [Part.inLock, Part.port, Part.judgedAs, Bank.get_set_ne _ _ own]
    rfl

theorem Part.judgedAs_port : (s.judgedAs p good).port p = { s.port p with
      lock := (s.port p).lock.afterEnd good, position := 0, misplaced := false, received := []
      counters := { (s.port p).counters with
        badFrames := (s.port p).counters.badFrames + (if good then 0 else 1) } } := Bank.get_set_self ..

/-- What the reference unit makes of a judged frame: a candidate that leaves LOCKED is cleared (R74). -/
theorem Part.judgedAs_lockChanged :
    (¬ (s.ref.candidate = some p ∧ (s.port p).lock = .locked ∧ good = false) →
      (s.judgedAs p good).lockChanged p (s.port p).lock ((s.port p).lock.afterEnd good) = s.judgedAs p good)
    ∧ (s.ref.candidate = some p → (s.port p).lock = .locked → good = false →
      (s.judgedAs p good).lockChanged p (s.port p).lock ((s.port p).lock.afterEnd good)
        = (s.judgedAs p good).clearCandidate .candidateLost) := by
  have leaves : (s.port p).lock.afterEnd good ≠ .locked ↔ good = false := by
    rw [Ne, LockState.afterEnd_locked_iff, Bool.not_eq_true]
  refine ⟨fun other => ?_, fun candidate was bad => ?_⟩
  · rw [Part.lockChanged, if_neg fun h => other ⟨h.1, h.2.1, leaves.mp h.2.2⟩,
      if_neg fun h => by simp [LockState.afterEnd_inLock] at h]
  · rw [Part.lockChanged, if_pos ⟨candidate, was, leaves.mpr bad⟩]

/-- The reference unit's share moves the record and the channels alone. -/
theorem Part.judgedAs_lockChanged_eq :
    (s.judgedAs p good).lockChanged p (s.port p).lock ((s.port p).lock.afterEnd good) = { s.judgedAs p good with
      ref := ((s.judgedAs p good).lockChanged p (s.port p).lock ((s.port p).lock.afterEnd good)).ref
      chans := ((s.judgedAs p good).lockChanged p (s.port p).lock ((s.port p).lock.afterEnd good)).chans } := by
  by_cases candidate : s.ref.candidate = some p ∧ (s.port p).lock = .locked ∧ good = false
  · rw [Part.judgedAs_lockChanged.2 candidate.1 candidate.2.1 candidate.2.2, Part.clearCandidate_eq]
  · rw [Part.judgedAs_lockChanged.1 candidate]

end

/-- A frame end that is a frame start, judged `good` (R92, R102). -/
theorem PortUnit.judgement {u : PortUnit} {pulse good : Bool}
    (open_ : (u.owing = .nothing ∧ ¬ (u.actionDue = true ∧ u.action ≠ none)) ∨ u.owing = .completion)
    (judged : good = true ↔ u.endsWell pulse ∨ (u.owing = .completion ∧ u.lock = .coast 3))
    (stays : good = true ∨ u.lock = .locked ∨ u.lock = .coast 1 ∨ u.lock = .coast 2) :
    u.goodEnd pulse = good ∧ u.fourthBad good = false ∧ u.replyEnd = false := by
  refine ⟨?_, ?_, ?_⟩
  · cases good with
    | true =>
      rcases judged.mp rfl with ⟨rfl, clean⟩ | ⟨ahead, last⟩
      · simp [PortUnit.goodEnd, clean]
      · simp [PortUnit.goodEnd, ahead, last, LockState.lastCoast]
    | false =>
      have bad : ¬ u.endsWell pulse := fun well => by simpa using judged.mpr (.inl well)
      have early : u.lock.lastCoast = false := by
        rcases stays.resolve_left (by decide) with l | l | l <;> rw [l] <;> rfl
      have spoiled : (pulse && !u.misplaced) = false :=
        Bool.eq_false_iff.mpr fun well => bad (by simpa using well)
      rw [PortUnit.goodEnd, spoiled, early, Bool.and_false, Bool.or_false]
  · rcases stays with good | l | l | l
    · simp [PortUnit.fourthBad, good]
    all_goals simp [PortUnit.fourthBad, l, LockState.lastCoast]
  · rcases open_ with ⟨owing, pending⟩ | ahead
    · exact Bool.eq_false_iff.mpr (mt (PortUnit.replyEnd_iff (by rw [owing]; decide)).mp pending)
    · simp [PortUnit.replyEnd, ahead]

/-- The completion share of a frame start. -/
theorem Part.completionShare_judged {s : Part} {p : Port} {pulse good : Bool} {rest : List Byte}
    (settled : (s.port p).owing ≠ .start) (judged : (s.port p).goodEnd pulse = good)
    (stays : (s.port p).fourthBad good = false) (pending : (s.port p).replyEnd = false)
    (whole : ((s.port p).received ++ rest).length = (s.port p).profile.slots) :
    s.completionShare p pulse rest =
      (((s.judgedAs p good).lockChanged p (s.port p).lock ((s.port p).lock.afterEnd good)).writeInbound p
        ((s.port p).received ++ rest)).setOwing p (if (s.port p).owing = .completion then .nothing else .start) := by
  have nothing : s.settleStart p = s := by rw [Part.settleStart, if_neg settled]
  have starts : (s.port p).startsFrame pulse = true := by simp [PortUnit.startsFrame, judged, stays, pending]
  have ended : s.endFrame p pulse rest = (s.judged p good).completeFrame p good rest := by
    unfold Part.endFrame
    dsimp only
    rw [judged, if_neg (by simp [stays]), if_neg (by simp [pending])]
  unfold Part.completionShare
  dsimp only
  rw [nothing, ended, if_pos starts, Part.judged_completeFrame whole]

/-- The port after the completion share of a frame start, with `o` owing. -/
def Part.completedPort (s : Part) (p : Port) (good : Bool) (o : Owing) : PortUnit :=
  { s.port p with
    lock := (s.port p).lock.afterEnd good, position := 0, misplaced := false, received := [], owing := o
    counters := { (s.port p).counters with
      badFrames := (s.port p).counters.badFrames + (if good then 0 else 1)
      inDrops := (s.port p).counters.inDrops + (if (s.inStores.get p).queue.length ≥ 4 then 1 else 0) } }

section
variable (s : Part) (p : Port) (good : Bool) (f : Frame) (o : Owing)

/-- The part as the reference unit has heard of a judged frame. -/
def Part.heardAs (s : Part) (p : Port) (good : Bool) : Part :=
  (s.judgedAs p good).lockChanged p (s.port p).lock ((s.port p).lock.afterEnd good)

/-- The records after a completion share. -/
theorem Part.completed_eq : ((s.heardAs p good).writeInbound p f).setOwing p o = { s with
    ports := s.ports.set p (s.completedPort p good o)
    inStores := s.inStores.set p ((s.inStores.get p).write f)
    ref := (s.heardAs p good).ref
    claims := (s.judgedAs p good).claims
    chans := ((s.heardAs p good).writeInbound p f).chans } := by
  have heard : s.heardAs p good = { s.judgedAs p good with
    ref := (s.heardAs p good).ref, chans := (s.heardAs p good).chans } := Part.judgedAs_lockChanged_eq
  have port : (s.heardAs p good).port p = (s.judgedAs p good).port p := by rw [heard]; rfl
  have ports : (s.heardAs p good).ports = s.ports.set p ((s.judgedAs p good).port p) := by
    rw [heard, Part.judgedAs_port]
    rfl
  have stores : (s.heardAs p good).inStores = s.inStores := by rw [heard]; rfl
  have rest : s.heardAs p good = { s with
      ports := (s.heardAs p good).ports, claims := (s.judgedAs p good).claims
      ref := (s.heardAs p good).ref, chans := (s.heardAs p good).chans } := by rw [heard]; rfl
  have write := Part.writeInbound_records (s := s.heardAs p good) (p := p) f
  rw [port, ports, stores, Bank.set_set, Part.judgedAs_port] at write
  generalize s.heardAs p good = x at rest write
  generalize x.writeInbound p f = w at write ⊢
  generalize w.chans = b at write ⊢
  subst write
  rw [Part.setOwing, Part.modifyPort, Bank.modify, Bank.get_set_self, Bank.set_set, rest]
  rfl

theorem Part.heardAs_standing : (s.heardAs p good).inStores = s.inStores ∧ (s.heardAs p good).exch = s.exch
    ∧ ((s.heardAs p good).port p).counters.inDrops = (s.port p).counters.inDrops := by
  have heard : s.heardAs p good = { s.judgedAs p good with
    ref := (s.heardAs p good).ref, chans := (s.heardAs p good).chans } := Part.judgedAs_lockChanged_eq
  have port : (s.heardAs p good).port p = (s.judgedAs p good).port p := by rw [heard]; rfl
  refine ⟨by rw [heard]; rfl, by rw [heard]; rfl, ?_⟩
  rw [port, Part.judgedAs_port]

end

/-- Settles O22: the frame is judged, the reference unit hears of it, and the frame is written. -/
theorem frameEndsAreJudgedAndCompleted : Obligations.FrameEndsAreJudgedAndCompleted := by
  intro p pulse good rest s running locked u fallback open_ whole judged stays
  obtain ⟨isGood, notFourth, notReply⟩ := PortUnit.judgement open_ judged stays
  have settled : u.owing ≠ .start := by
    rcases open_ with ⟨owing, -⟩ | owing <;> rw [owing] <;> decide
  have share := Part.completionShare_judged settled isGood notFourth notReply whole
  obtain ⟨silent, hears⟩ := Part.judgedAs_lockChanged (s := s.part) (p := p) (good := good)
  have before := Part.judgedAs_calm (s := s.part) (p := p) (good := good) locked
  have changed : (s.part.judgedAs p good).calm (s.part.heardAs p good) :=
    (s.part.judgedAs p good).lockChanged_calm p u.lock (u.lock.afterEnd good)
  have eq := s.part.completed_eq p good (u.received ++ rest) (if u.owing = .completion then .nothing else .start)
  have written := Part.writeInbound_calm (s := s.part.heardAs p good) (p := p) (u.received ++ rest)
  have owed := ((s.part.heardAs p good).writeInbound p (u.received ++ rest)).setOwing_calm p
    (if u.owing = .completion then .nothing else .start)
  have calm := ((before.trans changed).trans written).trans owed
  have drops := fun q => Part.reached_inboundDrop (s := s.part.heardAs p good) (p := p) (q := q) (u.received ++ rest)
  change s.part.completionShare p pulse rest = ((s.part.heardAs p good).writeInbound p (u.received ++ rest)).setOwing p
    (if u.owing = .completion then .nothing else .start) at share
  obtain ⟨stores, exch, counted⟩ := s.part.heardAs_standing p good
  have port : (s.part.completionShare p pulse rest).port p
      = s.part.completedPort p good (if u.owing = .completion then .nothing else .start) := by
    rw [share, eq]
    exact Bank.get_set_self ..
  have whole_of : u.owing ≠ .nothing → exec (.frameEnd p pulse rest .whole) s
      = .next { s with part := s.part.completionShare p pulse rest } := fun owing => by
    have ahead : u.owing = .completion := (open_.resolve_left fun h => owing h.1)
    rw [exec_frameEnd running locked, Part.frameShare, Part.wholeEnd, Part.settleStart, port, if_neg (by
      rw [if_pos ahead]
      exact nofun)]
  rw [exec_frameEnd running locked, Part.frameShare]
  have starts : u.owing = .nothing → exec (.frameEnd p pulse rest .whole) s = exec (.frameEnd p pulse rest .start)
      { s with part := s.part.completionShare p pulse rest } := fun owing => by
    have owes : ((s.part.completionShare p pulse rest).port p).owing = .start := by
      rw [port, if_neg (by rw [owing]; decide)]
      rfl
    have runs : (s.part.completionShare p pulse rest).inReset = false := by
      rw [share, eq]
      exact running
    have stays : (s.part.completionShare p pulse rest).inLock p = true := by
      rw [share, calm.1 p, locked]
    rw [exec_frameEnd running locked, exec_frameEnd (s := { s with part := s.part.completionShare p pulse rest }) runs
      stays, Part.frameShare, Part.frameShare, Part.startShare_owing _ _ owes, Part.wholeEnd, Part.settleStart,
      if_pos owes]
  refine ⟨_, rfl, rfl, fun good => ?_, fun bad => ⟨fun l => ?_, fun l => ?_, fun l => ?_⟩, ?_, ?_,
    fun full q other lock mask => ?_, fun other => ?_, fun candidate was bad => ⟨?_, fun mode q lock mask => ?_⟩, ?_,
    ?_, ?_, fun owing => whole_of (by rw [owing]; decide), starts⟩
  · rw [port]
    exact (LockState.afterEnd_locked_iff _).mpr good
  · rw [port, bad]
    exact (congrArg (LockState.afterEnd · false) l).trans LockState.afterEnd_bad.1
  · rw [port, bad]
    exact (congrArg (LockState.afterEnd · false) l).trans LockState.afterEnd_bad.2.1
  · rw [port, bad]
    exact (congrArg (LockState.afterEnd · false) l).trans LockState.afterEnd_bad.2.2
  · rw [port]
    rfl
  · rw [share, eq, Store.write_eq]
  · rw [stores, exch, counted] at drops
    rw [share]
    exact Part.reached_between (before.trans changed) (drops q full other (((before.trans changed).1 q).trans lock)
      (by rw [(before.trans changed).mask q]; exact mask)) owed
  · rw [share, eq]
    have heard : s.part.heardAs p good = _ := silent other
    dsimp only
    rw [heard]
    rfl
  · have heard : s.part.heardAs p good = _ := hears candidate was bad
    rw [share, eq]
    dsimp only
    rw [heard]
    by_cases mode : s.part.ref.mode = .qualify
    · rw [Part.clearCandidate_qualify (s := s.part.judgedAs p good) _ mode, if_pos mode]
      rfl
    · rw [Part.clearCandidate_silent (s := s.part.judgedAs p good) _ mode, if_neg mode]
      rfl
  · have heard : s.part.heardAs p good = _ := hears candidate was bad
    rw [Part.clearCandidate_qualify (s := s.part.judgedAs p good) _ mode] at heard
    have told := Part.reached_reference (s.part.judgedAs p good) .candidateLost { s.part.ref with
      mode := s.part.ref.fallback, candidate := none, count := 0 } ((before.1 q).trans lock)
      (by rw [before.mask q]; exact mask)
    rw [share]
    rw [heard] at written owed ⊢
    exact Part.reached_between before told (written.trans owed)
  · rw [share, eq]
    rfl
  · rw [share]
    exact Part.onlyNoticesJoined_of_notified calm.2
  · rw [port, share]
    exact eq.trans (by rw [eq])

end Sys2Proof.Machine
end

section
/-! Chapters 2, 3 and 8, requests that are checked and answered: READ_PORT (R105, R134), the checks of CLAIM and
RELEASE (R20, R21), RELEASE (R24, R25, R46) and an accepted STAGE (R36 to R38). -/

namespace Sys2Proof.Machine

open Sys2Proof

/-! ### READ_PORT (R105, R134) -/

section
variable (p : Port) {port : Byte} {s : Part}

theorem actReadPort_badPort (h : 3 < port.toNat) : actReadPort p [port] s = s.refuse .badPort (zeros 23) := by
  simp only [actReadPort, portOf_none h]

/-- A READ_PORT that names one of the four ports returns its byte with the record. -/
theorem actReadPort_record {q : Port} (hq : port.toNat = q.val) : actReadPort p [port] s = s.accept ([port,
      (s.port q).profile.slotCount.code, (s.port q).profile.controlSlot.code, (s.port q).profile.fill,
      (s.port q).profile.depth.code]
    ++ actionCodes (s.port q).action ++ [(s.port q).shownLock.code, (s.port q).shownLock.badCode]
    ++ (s.inStores.get q).codes ++ (s.outStores.get q).codes ++ (s.port q).counters.bytes) := by
  simp only [actReadPort, portOf_of_toNat hq, byteOf_of_toNat hq]

end

theorem SlotCount.code_eq (n : SlotCount) : n.code = if n = .s32 then 0x20 else 0x40 := by cases n <;> rfl

theorem ControlSlot.code_eq (c : ControlSlot) : c.code = if c = .first then 0x00 else 0x01 := by cases c <;> rfl

/-- Settles O35: the check on the port byte, then the record. -/
theorem readPortReportsTheRecord : Obligations.ReadPortReportsTheRecord := by
  intro p tag port s hr
  refine ⟨fun h => s.submit_refused (k := .readPort) tag hr rfl (actReadPort_badPort p h), fun q hq => ?_⟩
  have answered := s.submit_accepted (k := .readPort) (fields := [port]) tag hr rfl (actReadPort_record p hq (s := s.part))
  refine Eq.trans (b := _) answered (congrArg (fun values =>
    Host.Outcome.next (s.replying p ⟨0x88, tag, .ok, values, false⟩)) ?_)
  refine congrArg₂ (· ++ ·) (congrArg₂ (· ++ ·) (congrArg₂ (· ++ ·) (congrArg₂ (· ++ ·) (congrArg₂ (· ++ ·)
    ?profile ?action) ?lock) ?inStore) ?outStore) rfl
  case profile =>
    rw [SlotCount.code_eq, ControlSlot.code_eq]
    cases (s.part.port q).profile.depth <;> rfl
  case action =>
    rcases (s.part.port q).action with _ | ⟨n, c⟩ | _
    · rfl
    · cases n <;> cases c <;> rfl
    · rfl
  case lock =>
    rw [PortUnit.shownLock]
    cases (s.part.port q).hasLocked with
    | false => rfl
    | true => cases (s.part.port q).lock <;> rfl
  case inStore => rfl
  case outStore => rfl

/-! ### The checks of CLAIM and RELEASE (R20, R21, R24) -/

section
variable {s : State} {p : Port} {fields : List Byte} {status : Status}

/-- A CLAIM and a RELEASE that fail a check of R20 or R21 are refused alike. -/
theorem exec_claim_release_refused (tag : Byte) (hr : s.part.ready p)
    (fits : lengthFits .claim fields = true) (bad : s.part.namedObjects fields = .error status) :
    exec (.claim p tag fields) s = .next (s.replying p ⟨0x82, tag, status, [0, 0, 0, 0, 0xFF], false⟩)
      ∧ exec (.release p tag fields) s = .next (s.replying p ⟨0x83, tag, status, [0, 0, 0, 0, 0, 0xFF], false⟩) := by
  have claim : actClaim p fields s.part = s.part.refuse status [0, 0, 0, 0, 0xFF] := by simp only [actClaim, bad]
  have release : actRelease p fields s.part = s.part.refuse status [0, 0, 0, 0, 0, 0xFF] := by
    simp only [actRelease, bad]
  exact ⟨s.submit_refused (k := .claim) tag hr fits claim, s.submit_refused (k := .release) tag hr fits release⟩

end

theorem classOf_foreign {cls : Byte} (h : cls.toNat = 0 ∨ 3 < cls.toNat) : classOf cls = none := by
  have other : cls ≠ 1 ∧ cls ≠ 2 ∧ cls ≠ 3 := by
    refine ⟨?_, ?_, ?_⟩ <;> (rintro rfl; exact absurd h (by decide))
  obtain ⟨h1, h2, h3⟩ := other
  simp only [classOf, if_neg h1, if_neg h2, if_neg h3]

/-- Settles O39: the checks in turn, for both requests. -/
theorem claimAndReleaseAreChecked : Obligations.ClaimAndReleaseAreChecked := by
  intro p tag s hr
  refine ⟨fun cls rest h => ?_, fun port first count h => ?_, fun port first count low high h => ?_,
    fun q first count low high h => ?_, fun q first count low high slots before after => ?_, fun k h => ?_⟩
  · have foreign := classOf_foreign h
    exact exec_claim_release_refused tag hr (by simp only [lengthFits, foreign]) (s.part.namedObjects_badClass rest foreign)
  · exact exec_claim_release_refused tag hr rfl (s.part.namedObjects_badCount port first h)
  · exact exec_claim_release_refused tag hr rfl (s.part.namedObjects_badPort first low high h)
  · exact exec_claim_release_refused tag hr rfl (s.part.namedObjects_badSlot (toNat_portByte q) low high h)
  · exact exec_claim_release_refused tag hr rfl
      (s.part.namedObjects_reserved (toNat_portByte q) low high slots before after)
  · exact exec_claim_release_refused tag hr rfl (s.part.namedObjects_badChannel h)

/-! ### RELEASE (R24, R25, R46) -/

section
variable {s : Part} {p : Port} {fields : List Byte} {os : List ClaimObject}

/-- With every named object held, they become free and their edits go. -/
theorem actRelease_frees (named : s.namedObjects fields = .ok os) (held : ∀ o ∈ os, s.claims.holder o = some p) :
    actRelease p fields s = (({ s with claims := s.claims.setHolders os none } : Part).removeEdits p (targetsOneOf os)
      .released).accept [byteOf os.length, byteOf ((s.list p).removed (targetsOneOf os)), 0, 0, 0, 0xFF] := by
  have found : (os.find? fun o => s.claims.holder o != some p) = none :=
    List.find?_eq_none.mpr fun o ho => by simp [held o ho]
  simp only [actRelease, named, found]

/-- The first object not held is named with its holder, and the part stays as it was. -/
theorem actRelease_refused {before after : List ClaimObject} {o : ClaimObject}
    (named : s.namedObjects fields = .ok (before ++ o :: after)) (held : ∀ x ∈ before, s.claims.holder x = some p)
    (other : s.claims.holder o ≠ some p) :
    actRelease p fields s = s.refuse .notHolder (0 :: 0 :: o.codes ++ [optPortCode (s.claims.holder o)]) := by
  have found : ((before ++ o :: after).find? fun o => s.claims.holder o != some p) = some o :=
    List.find?_eq_some_iff_append.mpr ⟨by simpa using other, before, after, rfl, fun x hx => by simp [held x hx]⟩
  simp only [actRelease, named, found]

theorem StagingList.without_eq (l : StagingList) (gone : Edit → Bool) : l.without gone
    = ⟨l.edits.filter fun e => !gone e, if (l.edits.filter fun e => !gone e) = [] then none else l.target⟩ := by
  simp [StagingList.without]

/-- A list that is not armed, empty, or not left empty raises nothing. -/
theorem Part.removeEdits_silent {gone : Edit → Bool} (reason : CancelReason)
    (stays : (s.list p).target = none ∨ (s.list p).edits = [] ∨ ((s.list p).without gone).edits ≠ []) :
    (s.removeEdits p gone reason).chans = s.chans := by
  unfold Part.removeEdits
  dsimp only
  split
  case h_1 x armed =>
    rw [if_neg]
    simp only [Bool.and_eq_true, List.isEmpty_iff, not_and]
    intro goes emptied
    rcases stays with unarmed | empty | kept
    · rw [armed] at unarmed; cases unarmed
    · rw [empty] at goes; cases goes
    · exact kept emptied
  case h_2 => rfl

end

/-- Settles O40: the objects freed with the edits on them, or the first object not held. -/
theorem releaseFreesAndRemovesEdits : Obligations.ReleaseFreesAndRemovesEdits := by
  intro p tag fields os s hr (names : s.part.lawfullyNames fields os)
  have named := Part.namedObjects_of_lawfullyNames names
  have fits := (lengthFits_of_lawfullyNames names).2
  refine ⟨fun held => ?frees, fun before after o split held other => ?refused⟩
  case refused =>
    subst split
    refine (s.submit_refused (k := .release) tag hr fits (actRelease_refused named held other)).trans ?_
    cases o <;> cases s.part.claims.holder _ <;> rfl
  case frees =>
    have eq := ({ s.part with claims := s.part.claims.setHolders os none } : Part).removeEdits_eq p (targetsOneOf os)
      .released
    refine ⟨_, s.submit_fits p .release tag fields hr fits (actRelease_frees named held), rfl, fun o ho => ?_,
      fun o ho => ?_, ?_, ?_, fun x armed some emptied => ?_, fun stays => ?_, ?_⟩
    · dsimp only [Part.accept]
      rw [eq]
      exact (ClaimUnit.setHolders_holder ..).trans (if_pos ho)
    · dsimp only [Part.accept]
      rw [eq]
      exact (ClaimUnit.setHolders_holder ..).trans (if_neg ho)
    · dsimp only [Part.accept]
      rw [eq]
      exact ClaimUnit.setHolders_lapse ..
    · dsimp only [Part.accept]
      rw [eq]
      exact congrArg (s.part.lists.set p) (StagingList.without_eq _ _)
    · dsimp only [Part.accept]
      rw [Part.removeEdits_cancels (s := { s.part with claims := s.part.claims.setHolders os none })
        (gone := targetsOneOf os) armed some emptied]
      rfl
    · dsimp only [Part.accept]
      rw [Part.pushReply_chans, Part.removeEdits_silent (s := { s.part with claims := s.part.claims.setHolders os none })
        (gone := targetsOneOf os) .released stays]
      rfl
    · dsimp only [Part.accept]
      rw [eq]
      rfl

/-! ### STAGE (R36 to R38) -/

section
variable {l : StagingList} {e : Edit}

theorem StagingList.withEdit_appends (fresh : ∀ f ∈ l.edits, ¬ (f.port = e.port ∧ f.slot = e.slot)) :
    l.withEdit e = { l with edits := l.edits ++ [e] } := by
  have none_here : (l.edits.any fun f => f.sameTarget e) = false :=
    List.any_eq_false.mpr fun f hf => mt (f.sameTarget_iff e).mp (fresh f hf)
  rw [StagingList.withEdit, none_here]
  rfl

theorem StagingList.withEdit_replaces {before after : List Edit} {old : Edit} (edits : l.edits = before ++ old :: after)
    (same : old.port = e.port ∧ old.slot = e.slot)
    (others : ∀ f ∈ before ++ after, ¬ (f.port = e.port ∧ f.slot = e.slot)) :
    l.withEdit e = { l with edits := before ++ e :: after } := by
  have target : old.sameTarget e = true := (old.sameTarget_iff e).mpr same
  have kept : ∀ fs : List Edit, (∀ f ∈ fs, f ∈ before ++ after) →
      fs.map (fun f => if f.sameTarget e then e else f) = fs := fun fs sub =>
    (List.map_congr_left fun f hf => if_neg (mt (f.sameTarget_iff e).mp (others f (sub f hf)))).trans (List.map_id' fs)
  rw [StagingList.withEdit, if_pos (by simp [edits, target]), edits, List.map_append, List.map_cons,
    kept before fun f hf => by simp [hf], kept after fun f hf => by simp [hf], if_pos target]

end

theorem toNat_slotByte (i : Slot) : (BitVec.ofNat 8 i.val).toNat = i.val := by
  rw [BitVec.toNat_ofNat]
  omega

/-- Settles O41: the source is read, and the edit joins or replaces the one with its target. -/
theorem stagePutsOneEdit : Obligations.StagePutsOneEdit := by
  intro p q i tag kind a b src s hr carried held names unarmed edits staged outcome
  have source : s.part.sourceOf kind a b = some src := by
    rcases names with ⟨rfl, rfl⟩ | ⟨rfl, rfl⟩ | ⟨x, y, rfl, ha, hb, inbound, rfl⟩ | ⟨k, rfl, ha, rfl⟩
    · rfl
    · rfl
    · obtain ⟨slots, control⟩ := inbound
      simp [Part.sourceOf, portOf_of_toNat ha, slotOf_of_toNat hb, slots, control]
    · simp [Part.sourceOf, channelOf_of_toNat ha]
  have stages := actStage_lawful p (toNat_portByte q) (toNat_slotByte i) carried held source
  have open_ : (s.part.list p).armed = false := Bool.eq_false_iff.mpr (mt (s.part.list p).armed_iff.mp (by simp [unarmed]))
  rw [open_, if_neg (by decide)] at stages
  have answers : ∀ new : List Edit, actStage p [BitVec.ofNat 8 q.val, BitVec.ofNat 8 i.val, kind, a, b] s.part
      = ({ s.part with lists := s.part.lists.set p ⟨new, none⟩ } : Part).accept [byteOf new.length] →
      outcome = .next (staged new) := fun new answer =>
    s.submit_fits p .stage tag [BitVec.ofNat 8 q.val, BitVec.ofNat 8 i.val, kind, a, b] hr rfl answer
  refine ⟨fun fresh room => answers _ ?_, fun before after old split others => answers _ ?_⟩
  · have short : ¬ 16 ≤ (s.part.list p).edits.length := Nat.not_le.mpr room
    rw [stages, if_neg (by simp [short]), StagingList.withEdit_appends (l := s.part.list p) (e := ⟨q, i, src⟩) fresh,
      unarmed]
  · have split : (s.part.list p).edits = before ++ ⟨q, i, old⟩ :: after := split
    rw [stages, if_neg (by simp [split, Edit.sameTarget]),
      StagingList.withEdit_replaces (e := ⟨q, i, src⟩) split ⟨rfl, rfl⟩ others, unarmed]

end Sys2Proof.Machine
end

section
/-! Chapter 5, SET_REFERENCES (R78, R81 to R84): its checks, and what the new list makes of the record. -/

namespace Sys2Proof.Machine

open Sys2Proof

/-! ### The fields (R81, R125) -/

theorem revertiveOf_none {flag : Byte} (h : 1 < flag.toNat) : revertiveOf flag = none := by
  have other : flag ≠ 0 ∧ flag ≠ 1 := by constructor <;> (rintro rfl; exact absurd h (by decide))
  simp only [revertiveOf, if_neg other.1, if_neg other.2]

/-- The two flags. -/
theorem flag_cases {flag : Byte} (h : flag.toNat ≤ 1) : flag = 0 ∨ flag = 1 := by
  bv_omega

theorem revertiveOf_flag {flag : Byte} (h : flag.toNat ≤ 1) : revertiveOf flag = some (decide (flag = 0x01)) := by
  rcases flag_cases h with rfl | rfl <;> rfl

/-- The bytes of a list are read as the ports they number. -/
theorem portsOf_eq_some_iff {bytes : List Byte} {ports : List Port} :
    portsOf bytes = some ports ↔ bytes = ports.map fun q => BitVec.ofNat 8 q.val := by
  have read : ∀ (b : Byte) (q : Port), portOf b = some q ↔ b = BitVec.ofNat 8 q.val := fun b q => by
    rw [portOf_eq_some_iff, ← toNat_portByte q, BitVec.toNat_inj, toNat_portByte]
  unfold portsOf
  induction bytes generalizing ports with
  | nil => cases ports <;> simp
  | cons b bytes ih =>
    simp only [List.mapM_cons, bind, Option.bind_eq_some_iff, pure, Option.some.injEq]
    cases ports with
    | nil => simp
    | cons q ports =>
      rw [List.map_cons, List.cons.injEq, ← read]
      constructor
      · rintro ⟨q', hq, ports', hports, same⟩
        cases same
        exact ⟨hq, ih.mp hports⟩
      · exact fun ⟨hq, hports⟩ => ⟨q, hq, ports, ih.mpr hports, rfl⟩

section
variable {s : Part} {p : Port} {flag : Byte} {ports : List Byte}

theorem actSetReferences_notHolder (h : s.claims.holder .timing ≠ some p) :
    actSetReferences p (flag :: ports) s = s.refuse .notHolder s.referenceFields := by
  rw [actSetReferences, if_pos h]

theorem actSetReferences_badValue (held : s.claims.holder .timing = some p)
    (bad : 1 < flag.toNat ∨ (∃ b ∈ ports, 3 < b.toNat) ∨ ¬ ports.Nodup) :
    actSetReferences p (flag :: ports) s = s.refuse .badValue s.referenceFields := by
  rw [actSetReferences, if_neg (not_not.mpr held)]
  cases flagged : revertiveOf flag with
  | none => rfl
  | some revertive =>
    cases listed : portsOf ports with
    | none => rfl
    | some list =>
      have bytes := portsOf_eq_some_iff.mp listed
      have repeats : ¬ list.Nodup := by
        rcases bad with high | ⟨b, hb, high⟩ | repeats
        · rw [revertiveOf_none high] at flagged
          cases flagged
        · rw [bytes, List.mem_map] at hb
          obtain ⟨q, -, rfl⟩ := hb
          rw [toNat_portByte] at high
          omega
        · refine fun distinct => repeats ?_
          rw [bytes]
          refine distinct.map fun q r same => Fin.ext ?_
          rw [← toNat_portByte q, ← toNat_portByte r]
          exact congrArg BitVec.toNat same
      exact if_neg repeats

theorem actSetReferences_accepted {list : List Port} (held : s.claims.holder .timing = some p) (low : flag.toNat ≤ 1)
    (bytes : ports = list.map fun q => BitVec.ofNat 8 q.val) (distinct : list.Nodup) :
    actSetReferences p (flag :: ports) s = (s.setReferences list (decide (flag = 0x01))).accept
      (s.setReferences list (decide (flag = 0x01))).referenceFields := by
  rw [actSetReferences, if_neg (not_not.mpr held), revertiveOf_flag low, portsOf_eq_some_iff.mpr bytes]
  exact if_pos distinct

end

/-! ### The record under the new list (R82) -/

section
variable (s : Part) (list : List Port) (revertive : Bool)

/-- The part with the new list and flag, before the record is acted on. -/
def Part.relisted : Part := s.setRef { s.ref with list := list, revertive := revertive }

/-- The tracked port is no longer listed. -/
def RefUnit.losesBy (r : RefUnit) (list : List Port) : Prop :=
  r.mode = .tracking ∧ ∃ q, r.tracked = some q ∧ q ∉ list

/-- The candidate is no longer listed, or in TRACKING no longer wanted. -/
def RefUnit.clearsBy (r : RefUnit) (list : List Port) (revertive : Bool) : Prop :=
  ∃ h, r.candidate = some h
    ∧ ((r.mode = .qualify ∧ h ∉ list) ∨ (r.mode = .tracking ∧ (h ∉ list ∨ revertive = false)))

/-- A port, where there is one, is listed. -/
theorem listed_iff (o : Option Port) : (o.all fun q => list.contains q) = true ↔ ∀ q, o = some q → q ∈ list := by
  cases o <;> simp

variable {s list revertive}

theorem not_all_listed {o : Option Port} {q : Port} (h : o = some q) (unlisted : q ∉ list) :
    (!(o.all fun q => list.contains q)) = true := by
  simp [h, unlisted]

theorem Part.setReferences_loses (h : s.ref.losesBy list) :
    s.setReferences list revertive = (s.relisted list revertive).loseReference .listChanged := by
  obtain ⟨mode, q, tracked, unlisted⟩ := h
  unfold Part.setReferences
  split
  case h_1 => exact if_pos (not_all_listed tracked unlisted)
  all_goals
    rename_i other
    rw [mode] at other
    cases other

/-- In TRACKING a tracked port that is not lost is listed. -/
theorem RefUnit.tracked_listed (mode : s.ref.mode = .tracking) (h : ¬ s.ref.losesBy list) :
    ¬ (!(s.ref.tracked.all fun q => list.contains q)) = true := by
  rw [(listed_iff list _).mpr fun q hq => by_contra fun unlisted => h ⟨mode, q, hq, unlisted⟩]
  exact Bool.false_ne_true

theorem Part.setReferences_clears (h : ¬ s.ref.losesBy list) (clears : s.ref.clearsBy list revertive) :
    s.setReferences list revertive = (s.relisted list revertive).clearCandidate .listChanged := by
  obtain ⟨c, candidate, ⟨mode, unlisted⟩ | ⟨mode, unwanted⟩⟩ := clears
  · unfold Part.setReferences
    split
    case h_2 => exact if_pos (not_all_listed candidate unlisted)
    all_goals
      rename_i other
      rw [mode] at other
      cases other
  · have cleared : (s.ref.candidate.isSome && (!(s.ref.candidate.all fun q => list.contains q) || !revertive))
        = true := by
      rcases unwanted with unlisted | rfl
      · rw [not_all_listed candidate unlisted, candidate]
        rfl
      · rw [candidate, Bool.not_false, Bool.or_true]
        rfl
    unfold Part.setReferences
    split
    case h_1 => exact (if_neg (RefUnit.tracked_listed mode h)).trans (if_pos cleared)
    all_goals
      rename_i other
      rw [mode] at other
      cases other

theorem Part.setReferences_stays (h : ¬ s.ref.losesBy list) (stays : ¬ s.ref.clearsBy list revertive) :
    s.setReferences list revertive = s.relisted list revertive := by
  unfold Part.setReferences
  split
  case h_1 mode =>
    refine (if_neg (RefUnit.tracked_listed mode h)).trans (if_neg fun cleared => ?_)
    cases candidate : s.ref.candidate with
    | none =>
      rw [candidate] at cleared
      cases cleared
    | some c =>
      rw [candidate] at cleared
      exact stays ⟨c, candidate, .inr ⟨mode, by simpa using cleared⟩⟩
  case h_2 mode =>
    refine if_neg fun cleared => ?_
    cases candidate : s.ref.candidate with
    | none =>
      rw [candidate] at cleared
      cases cleared
    | some c =>
      rw [candidate] at cleared
      exact stays ⟨c, candidate, .inl ⟨mode, by simpa using cleared⟩⟩
  all_goals rfl

end

/-! ### The reply (R82, R84) -/

section
variable {s : State} {p : Port} {flag : Byte} {ports : List Byte} {list : List Port}

theorem RefUnit.fields_eq (r : RefUnit) : [match r.mode with
      | .free => (0x00 : Byte) | .qualify => 0x01 | .tracking => 0x02 | .holdover => 0x03,
    match r.tracked with
      | none => 0xFF
      | some q => BitVec.ofNat 8 q.val] = [r.mode.code, optPortCode r.tracked] := by
  cases r.mode <;> cases r.tracked <;> rfl

theorem lengthFits_setReferences (short : ports.length ≤ 4) : lengthFits .setReferences (flag :: ports) = true := by
  show (1 ≤ ports.length + 1 && ports.length + 1 ≤ 5) = true
  rw [decide_eq_true (by omega : 1 ≤ ports.length + 1), decide_eq_true (by omega : ports.length + 1 ≤ 5)]
  rfl

theorem exec_setReferences_refused (tag : Byte) (ready : s.part.ready p) (short : ports.length ≤ 4) {status : Status}
    (act : actSetReferences p (flag :: ports) s.part = s.part.refuse status s.part.referenceFields) :
    exec (.setReferences p tag (flag :: ports)) s = .next (s.replying p
      ⟨0x8B, tag, status, [s.part.ref.mode.code, optPortCode s.part.ref.tracked], false⟩) :=
  s.submit_refused (k := .setReferences) tag ready (lengthFits_setReferences short) act

theorem exec_setReferences_accepted (tag : Byte) (ready : s.part.ready p) (short : ports.length ≤ 4)
    (held : s.part.claims.holder .timing = some p) (low : flag.toNat ≤ 1)
    (bytes : ports = list.map fun q => BitVec.ofNat 8 q.val) (distinct : list.Nodup) {u : Part}
    (becomes : s.part.setReferences list (decide (flag = 0x01)) = u) :
    exec (.setReferences p tag (flag :: ports)) s = .next (State.replying ⟨u, s.pending⟩ p
      ⟨0x8B, tag, .ok, [u.ref.mode.code, optPortCode u.ref.tracked], false⟩) := by
  subst becomes
  exact s.submit_fits p .setReferences tag (flag :: ports) ready (lengthFits_setReferences short)
    (actSetReferences_accepted held low bytes distinct)

/-- After the request the record and the channels alone may differ, and REFERENCE is raised exactly when mode or
tracked port changed. -/
def Part.relists (s u : Part) : Prop :=
  u = { s with ref := u.ref, chans := u.chans }
    ∧ ((s.ref.mode = u.ref.mode ∧ s.ref.tracked = u.ref.tracked) → u.chans = s.chans)
    ∧ (¬ (s.ref.mode = u.ref.mode ∧ s.ref.tracked = u.ref.tracked) → u.chans = (s.raise
        (.reference u.ref.mode u.ref.tracked u.ref.candidate .listChanged s.ref.held s.exch.counter)).chans)

theorem pushReply_chans_congr {u v : Part} (h : u.chans = v.chans) (p : Port) (r : Reply) :
    (u.pushReply p r).chans = (v.pushReply p r).chans := by
  rw [Part.pushReply_chans, Part.pushReply_chans, h]

theorem pushReply_frame {u v : Part} (h : v = { u with ref := v.ref, chans := v.chans }) (p : Port) (r : Reply) :
    v.pushReply p r = { u with ref := (v.pushReply p r).ref, chans := (v.pushReply p r).chans } := by
  rw [h]
  rfl

theorem Part.relists_silent (s : Part) (r : RefUnit) (mode : s.ref.mode = r.mode) (tracked : s.ref.tracked = r.tracked) :
    s.relists (s.setRef r) :=
  ⟨rfl, fun _ => rfl, fun changed => absurd ⟨mode, tracked⟩ changed⟩

theorem Part.relists_raised (s : Part) (r : RefUnit) (held : r.held = s.ref.held)
    (changed : s.ref.mode ≠ r.mode) :
    s.relists ((s.setRef r).raiseReference .listChanged) :=
  ⟨rfl, fun same => absurd same.1 changed, fun _ => by
    show ((s.setRef r).raise (.reference r.mode r.tracked r.candidate .listChanged r.held s.exch.counter)).chans = _
    rw [held]
    rfl⟩

end

section
variable (s : Part) (list : List Port) (revertive : Bool)

/-- The record after the request when no exchange frame start is taken with it. -/
theorem Part.setReferences_early (early : ¬ s.ref.losesBy list ∨ s.ref.timer < s.ref.held.getD 2048) :
    s.relists (s.setReferences list revertive)
      ∧ (s.ref.losesBy list → (s.setReferences list revertive).ref = (s.relisted list revertive).ref.lost)
      ∧ (¬ s.ref.losesBy list → s.ref.clearsBy list revertive → s.ref.mode = .qualify →
          (s.setReferences list revertive).ref = { (s.relisted list revertive).ref with
            mode := s.ref.fallback, candidate := none, count := 0 })
      ∧ (¬ s.ref.losesBy list → s.ref.clearsBy list revertive → s.ref.mode ≠ .qualify →
          (s.setReferences list revertive).ref = { (s.relisted list revertive).ref with
            candidate := none, count := 0 })
      ∧ (¬ s.ref.losesBy list → ¬ s.ref.clearsBy list revertive →
          (s.setReferences list revertive).ref = (s.relisted list revertive).ref) := by
  by_cases loses : s.ref.losesBy list
  · have becomes := (Part.setReferences_loses (revertive := revertive) loses).trans
      (Part.loseReference_early (s.relisted list revertive) .listChanged (early.resolve_left (not_not.mpr loses)))
    rw [becomes]
    refine ⟨Part.relists_raised s (s.relisted list revertive).ref.lost rfl ?_, fun _ => rfl,
      fun h => absurd loses h, fun h => absurd loses h, fun h => absurd loses h⟩
    rw [loses.1]
    exact fun same => (s.relisted list revertive).ref.lost_mode same.symm
  · by_cases clears : s.ref.clearsBy list revertive
    · rw [Part.setReferences_clears loses clears]
      by_cases mode : s.ref.mode = .qualify
      · rw [Part.clearCandidate_qualify _ (s := s.relisted list revertive) mode]
        refine ⟨Part.relists_raised s _ rfl ?_, fun h => absurd h loses, fun _ _ _ => rfl,
          fun _ _ other => absurd mode other, fun _ stays => absurd clears stays⟩
        rw [mode]
        show RefMode.qualify ≠ if s.ref.held.isSome then .holdover else .free
        split <;> decide
      · rw [Part.clearCandidate_silent _ (s := s.relisted list revertive) mode]
        exact ⟨Part.relists_silent s _ rfl rfl, fun h => absurd h loses, fun _ _ other => absurd other mode,
          fun _ _ _ => rfl, fun _ stays => absurd clears stays⟩
    · rw [Part.setReferences_stays loses clears]
      exact ⟨Part.relists_silent s _ rfl rfl, fun h => absurd h loses, fun _ h => absurd h clears,
        fun _ h => absurd h clears, fun _ _ => rfl⟩

end

/-- Settles O45: each check by `actSetReferences_notHolder` and `actSetReferences_badValue`; else the record is
acted on in the three ways of `setReferences_loses`, `_clears` and `_stays`, a loss at a due start as
`loseReference_due` takes it. -/
theorem setReferencesActsAtOnce : Obligations.SetReferencesActsAtOnce := by
  intro p tag flag ports s ready short fields refused
  have codes : ∀ r, fields r = [r.mode.code, optPortCode r.tracked] := fun r => r.fields_eq
  clear_value fields
  cases funext codes
  refine ⟨fun h => exec_setReferences_refused tag ready short (actSetReferences_notHolder h),
    fun held bad => exec_setReferences_refused tag ready short (actSetReferences_badValue held bad), ?_⟩
  intro list held low bytes distinct r fallback period loses lost
  have fits {u : Part} := exec_setReferences_accepted (u := u) tag ready short held low bytes distinct
  refine ⟨fun loss due => ?_, fun early => ?_⟩
  · have becomes := (Part.setReferences_loses (revertive := decide (flag = 0x01)) loss).trans
      (Part.loseReference_due (s.part.relisted list (decide (flag = 0x01))) .listChanged due)
    obtain ⟨untracked, track, mode, kept⟩ :=
      (s.part.relisted list (decide (flag = 0x01))).unreferenced_frameStart .listChanged
    have timing := ((s.part.relisted list (decide (flag = 0x01))).unreferenced .listChanged).frameStart_timing .localTimer
    have number := ((s.part.relisted list (decide (flag = 0x01))).unreferenced .listChanged).frameStart_counter .localTimer
    obtain ⟨timer, -, same, -⟩ := timing
    have reached : ((s.part.relisted list (decide (flag = 0x01))).unreferenced .listChanged).startDue .localTimer = true := by
      rw [Part.unreferenced_due]
      exact decide_eq_true due
    have taken := exec_exchangeFrameStart_taken (cause := .localTimer)
      (s := ⟨(s.part.relisted list (decide (flag = 0x01))).unreferenced .listChanged, s.pending⟩) ready.1 reached
    generalize ((s.part.relisted list (decide (flag = 0x01))).unreferenced .listChanged).frameStart .localTimer = u at *
    exact ⟨⟨u, s.pending⟩, _, fits becomes, taken, .inr rfl, number, timer, untracked, track, mode, kept, same⟩
  · obtain ⟨⟨rest, silent, raised⟩, lose, clear, drop, stay⟩ :=
      s.part.setReferences_early list (decide (flag = 0x01)) early
    have keeps : (∀ q, s.part.ref.tracked = some q → q ∈ list) → ¬ s.part.ref.losesBy list :=
      fun listed ⟨_, q, tracked, unlisted⟩ => unlisted (listed q tracked)
    have other {m : RefMode} (mode : s.part.ref.mode = m) (no : m ≠ .tracking) : ¬ s.part.ref.losesBy list :=
      fun loses => no (mode.symm.trans loses.1)
    generalize becomes : s.part.setReferences list (decide (flag = 0x01)) = u at *
    refine ⟨_, fits rfl, rfl, lose, ?_, ?_, ?_, ?_, ?_, ?_, ?_, ?_⟩
    · rintro mode listed ⟨h, candidate, unwanted⟩
      refine drop (keeps listed) ⟨h, candidate, .inr ⟨mode, unwanted.imp id ?_⟩⟩ (by rw [mode]; decide)
      rintro rfl
      rfl
    · intro mode listed wanted
      refine stay (keeps listed) ?_
      rintro ⟨h, candidate, ⟨mode', -⟩ | ⟨-, unwanted⟩⟩
      · rw [mode] at mode'
        cases mode'
      · obtain ⟨inList, rfl⟩ := wanted h candidate
        exact unwanted.elim (fun no => no inList) nofun
    · intro h mode candidate unlisted
      exact clear (other mode nofun) ⟨h, candidate, .inl ⟨mode, unlisted⟩⟩ mode
    · intro h mode candidate inList
      refine stay (other mode nofun) ?_
      rintro ⟨h', candidate', ⟨-, unlisted⟩ | ⟨mode', -⟩⟩
      · cases candidate.symm.trans candidate'
        exact unlisted inList
      · rw [mode] at mode'
        cases mode'
    · intro mode
      refine stay (mode.elim (other · nofun) (other · nofun)) ?_
      rintro ⟨-, -, ⟨mode', -⟩ | ⟨mode', -⟩⟩ <;> rcases mode with mode | mode <;>
        exact RefMode.noConfusion (mode.symm.trans mode')
    · exact fun same => pushReply_chans_congr (silent same) p _
    · exact fun changed => pushReply_chans_congr (raised changed) p _
    · exact pushReply_frame rest p _

end Sys2Proof.Machine
end

section
/-! Chapter 6, SET_PROFILE and RESTART (R101, R102, R104, R118): their checks and what they record. -/

namespace Sys2Proof.Machine

open Sys2Proof

section
variable {s : Part} {p : Port} {n : SlotCount} {c : ControlSlot} {d : PrimeDepth} {count control fill depth : Byte}

/-! ### The fields (R125, R129) -/

theorem slotCountOf_none (h : ¬ (count = 0x20 ∨ count = 0x40)) : slotCountOf count = none := by
  rw [slotCountOf, if_neg (not_or.mp h).1, if_neg (not_or.mp h).2]

theorem controlSlotOf_none (h : 1 < control.toNat) : controlSlotOf control = none := by
  have other : control ≠ 0 ∧ control ≠ 1 := by constructor <;> (rintro rfl; exact absurd h (by decide))
  rw [controlSlotOf, if_neg other.1, if_neg other.2]

theorem depthOf_none (h : ¬ (depth = 0x01 ∨ depth = 0x02)) : depthOf depth = none := by
  rw [depthOf, if_neg (not_or.mp h).1, if_neg (not_or.mp h).2]

theorem slotCountOf_code (n : SlotCount) : slotCountOf (if n = .s32 then 0x20 else 0x40) = some n := by
  cases n <;> rfl

theorem controlSlotOf_code (c : ControlSlot) : controlSlotOf (if c = .first then 0x00 else 0x01) = some c := by
  cases c <;> rfl

theorem depthOf_code (d : PrimeDepth) : depthOf (if d = .one then 0x01 else 0x02) = some d := by
  cases d <;> rfl

/-! ### The checks (R101, R104) -/

theorem Profile.structural_iff (f : Profile) :
    f.structural n c = true ↔ ¬ (f.slotCount = n ∧ f.controlSlot = c) := by
  rw [Profile.structural, Bool.or_eq_true, bne_iff_ne, bne_iff_ne, not_and_or]

/-- What depends on an affected slot: a holding, an entry or a staged edit (R101). -/
theorem Part.dependent_iff : s.dependent p n c = true ↔
    (∃ i : Slot, affected n c i.val = true ∧ s.claims.holder (.slot p i) ≠ none)
      ∨ (∃ (q : Port) (j i : Slot), (s.entry q j).source = .inbound p i ∧ affected n c i.val = true)
      ∨ (∃ (m : Port) (i : Slot), ∃ e ∈ (s.list m).edits, e.source = .inbound p i ∧ affected n c i.val = true) := by
  simp only [Part.dependent, Bool.or_eq_true, List.any_eq_true, Bool.and_eq_true, Option.isSome_iff_ne_none,
    Source.namesAffected_iff, List.mem_finRange, mem_allPorts, true_and, or_assoc]
  refine or_congr_right (or_congr_right (exists_congr fun m => ?_))
  exact ⟨fun ⟨e, he, i, named⟩ => ⟨i, e, he, named⟩, fun ⟨i, e, he, named⟩ => ⟨e, he, i, named⟩⟩

theorem actSetProfile_badValue (bad : ¬ (count = 0x20 ∨ count = 0x40) ∨ 1 < control.toNat
      ∨ ¬ (depth = 0x01 ∨ depth = 0x02)) :
    actSetProfile p [count, control, fill, depth] s = s.refuse .badValue [] := by
  rw [actSetProfile]
  rcases bad with bad | bad | bad
  · rw [slotCountOf_none bad]
  · rw [controlSlotOf_none bad]
    cases slotCountOf count <;> rfl
  · rw [depthOf_none bad]
    cases slotCountOf count
    · rfl
    · cases controlSlotOf control <;> rfl

section
variable (hn : slotCountOf count = some n) (hc : controlSlotOf control = some c) (hd : depthOf depth = some d)
include hn hc hd

theorem actSetProfile_known : actSetProfile p [count, control, fill, depth] s =
    if (s.port p).action.isSome then s.refuse .armed []
    else if (s.port p).profile.structural n c && s.dependent p n c then s.refuse .dependent []
    else ⟨s.modifyPort p fun u => u.withProfile n c fill d, .ok, [], (s.port p).profile.structural n c⟩ := by
  rw [actSetProfile, hn, hc, hd]

theorem actSetProfile_armed (busy : (s.port p).action ≠ none) :
    actSetProfile p [count, control, fill, depth] s = s.refuse .armed [] := by
  rw [actSetProfile_known hn hc hd, if_pos (Option.isSome_iff_ne_none.mpr busy)]

variable (idle : (s.port p).action = none)
include idle

theorem actSetProfile_dependent (structural : (s.port p).profile.structural n c = true)
    (inUse : s.dependent p n c = true) :
    actSetProfile p [count, control, fill, depth] s = s.refuse .dependent [] := by
  rw [actSetProfile_known hn hc hd, if_neg (by rw [idle]; nofun), if_pos (by rw [structural, inUse]; rfl)]

theorem actSetProfile_structural (structural : (s.port p).profile.structural n c = true)
    (unused : s.dependent p n c = false) :
    actSetProfile p [count, control, fill, depth] s = ⟨{ s with ports := s.ports.set p { s.port p with
      action := some (.profile n c), profile := { (s.port p).profile with fill := fill, depth := d } } },
      .ok, [], true⟩ := by
  rw [actSetProfile_known hn hc hd, if_neg (by rw [idle]; nofun), if_neg (by rw [unused, Bool.and_false]; nofun),
    structural]
  refine congrArg (fun u => (⟨{ s with ports := s.ports.set p u }, .ok, [], true⟩ : Answer)) ?_
  exact congrArg (fun a => { s.port p with
    action := a, profile := { (s.port p).profile with fill := fill, depth := d } }) (if_pos structural)

theorem actSetProfile_same (same : (s.port p).profile.structural n c = false) :
    actSetProfile p [count, control, fill, depth] s = ⟨{ s with ports := s.ports.set p { s.port p with
      action := none, profile := { (s.port p).profile with fill := fill, depth := d } } }, .ok, [], false⟩ := by
  rw [actSetProfile_known hn hc hd, if_neg (by rw [idle]; nofun), if_neg (by rw [same, Bool.false_and]; nofun), same]
  refine congrArg (fun u => (⟨{ s with ports := s.ports.set p u }, .ok, [], false⟩ : Answer)) ?_
  exact congrArg (fun a => { s.port p with
    action := a, profile := { (s.port p).profile with fill := fill, depth := d } })
      ((if_neg (Bool.eq_false_iff.mp same)).trans idle)

end

theorem actRestart_armed (busy : (s.port p).action ≠ none) : actRestart p [] s = s.refuse .armed [] :=
  if_pos (Option.isSome_iff_ne_none.mpr busy)

theorem actRestart_recorded (idle : (s.port p).action = none) : actRestart p [] s =
    ⟨{ s with ports := s.ports.set p { s.port p with action := some .restart } }, .ok, [], true⟩ :=
  if_neg (by rw [idle]; nofun)

end

/-- Settles O46: each outcome is that of the request's owner (`actSetProfile_*`, `actRestart_*`), with
`dependent_iff` for what R101 calls in use. -/
theorem profilesAndRestartsAreRecorded : Obligations.ProfilesAndRestartsAreRecorded := by
  intro p tag countByte controlByte fill depthByte s ready u outcome refused
  have answers {a : Answer} (h : actSetProfile p [countByte, controlByte, fill, depthByte] s.part = a) :
      outcome = .next { s with
        part := a.part.pushReply p ⟨0x8C, tag, a.status, a.fields, a.marked⟩ } :=
    s.submit_fits p .setProfile tag _ ready rfl h
  have restarts {a : Answer} (h : actRestart p [] s.part = a) :
      exec (.restart p tag []) s = .next { s with
        part := a.part.pushReply p ⟨0x8D, tag, a.status, a.fields, a.marked⟩ } :=
    s.submit_fits p .restart tag _ ready rfl h
  refine ⟨fun bad => answers (actSetProfile_badValue bad), fun busy => restarts (actRestart_armed busy),
    fun idle => restarts (actRestart_recorded idle), ?_⟩
  intro n c d countIs controlIs depthIs isAffected inUse same recorded
  have hn := countIs ▸ slotCountOf_code n
  have hc := controlIs ▸ controlSlotOf_code c
  have hd := depthIs ▸ depthOf_code d
  have uses : s.part.dependent p n c = true ↔ inUse := by
    simp only [Part.dependent_iff, affected_iff]
    rfl
  have changes : u.profile.structural n c = true ↔ ¬ same := u.profile.structural_iff
  refine ⟨fun busy => answers (actSetProfile_armed hn hc hd busy),
    fun idle differs used => answers (actSetProfile_dependent hn hc hd idle (changes.mpr differs) (uses.mpr used)),
    fun idle differs unused => answers (actSetProfile_structural hn hc hd idle (changes.mpr differs) ?_),
    fun idle equal => answers (actSetProfile_same hn hc hd idle ?_)⟩
  · exact Bool.eq_false_iff.mpr fun used => unused (uses.mp used)
  · exact Bool.eq_false_iff.mpr fun differs => changes.mp differs equal

end Sys2Proof.Machine
end

section
/-! Chapter 9, PLAY (R141, R143, R145, R146): its checks, the hit in the cache and the wait on a fetch. -/

namespace Sys2Proof.Machine

open Sys2Proof

/-! ### The cache and the fetches as lists (R145, R146) -/

section
variable {n : Pattern} {d : Descriptor}

theorem cached_some {u : PlaybackUnit} {before after : List CacheEntry} (at_ : u.cache = before ++ ⟨n, d⟩ :: after)
    (others : ∀ e ∈ before ++ after, e.pattern ≠ n) : u.cached n = some d := by
  have front : (before.find? fun e => e.pattern == n) = none :=
    List.find?_eq_none.mpr fun e he => by simpa using others e (List.mem_append_left _ he)
  rw [PlaybackUnit.cached, at_, List.find?_append, front, Option.none_or, List.find?_cons_of_pos (by simp)]
  rfl

theorem cached_none {u : PlaybackUnit} (others : ∀ e ∈ u.cache, e.pattern ≠ n) : u.cached n = none := by
  rw [PlaybackUnit.cached, List.find?_eq_none.mpr fun e he => by simpa using others e he]
  rfl

/-- The entry for a pattern moves to the front and the others keep their order. -/
theorem touchCache_split {before after : List CacheEntry} (others : ∀ e ∈ before ++ after, e.pattern ≠ n) :
    touchCache (before ++ ⟨n, d⟩ :: after) n = ⟨n, d⟩ :: (before ++ after) := by
  have none_of {l : List CacheEntry} (h : ∀ e ∈ l, e.pattern ≠ n) : (l.filter fun e => e.pattern == n) = [] :=
    List.filter_eq_nil_iff.mpr fun e he => by simpa using h e he
  have all_of {l : List CacheEntry} (h : ∀ e ∈ l, e.pattern ≠ n) : (l.filter fun e => e.pattern != n) = l :=
    List.filter_eq_self.mpr fun e he => by simpa using h e he
  have outer := List.forall_mem_append.mp others
  rw [touchCache, List.filter_append, List.filter_append, List.filter_cons_of_pos (by simp),
    List.filter_cons_of_neg (by simp), none_of outer.1, none_of outer.2, all_of outer.1, all_of outer.2]
  rfl

variable {k : Channel}

/-- Leaving makes no fetch for a pattern that had none. -/
theorem leaveFetches_others {fs : List Fetch} (others : ∀ f ∈ fs, f.pattern ≠ n) :
    ∀ f ∈ leaveFetches fs k none, f.pattern ≠ n := by
  intro f' left
  obtain ⟨f, mem, -, rfl⟩ := mem_leaveFetches_none.mp left
  exact others f mem

/-- With no fetch for `n` the channel leaves its own and one is created at the tail. -/
theorem joinFetch_created {fs : List Fetch} (others : ∀ f ∈ fs, f.pattern ≠ n) :
    joinFetch (leaveFetches fs k (some n)) k n = leaveFetches fs k none ++ [⟨n, [k], .awaitingIssue⟩] := by
  rw [leaveFetches_some _ _ others, joinFetch, if_neg]
  intro any
  obtain ⟨f, left, same⟩ := List.any_eq_true.mp any
  exact leaveFetches_others others f left (beq_iff_eq.mp same)

/-- The fetches for other patterns are as they were when a channel joins. -/
theorem joined_others {fs : List Fetch} (others : ∀ f ∈ fs, f.pattern ≠ n) :
    (fs.map fun f => if f.pattern == n && !f.waiters.contains k then { f with waiters := f.waiters ++ [k] } else f)
      = fs := by
  refine (List.map_congr_left fun f hf => ?_).trans (List.map_id fs)
  rw [beq_false_of_ne (others f hf)]
  rfl

/-- With a fetch for `n` the channel leaves the others and stays or joins at its waiters' tail. -/
theorem joinFetch_joined {before after : List Fetch} {ws : List Channel} {g : FetchProgress}
    (others : ∀ f ∈ before ++ after, f.pattern ≠ n) :
    joinFetch (leaveFetches (before ++ ⟨n, ws, g⟩ :: after) k (some n)) k n =
      leaveFetches before k none ++ ⟨n, if k ∈ ws then ws else ws ++ [k], g⟩ :: leaveFetches after k none := by
  have outer := List.forall_mem_append.mp others
  have left : leaveFetches (before ++ ⟨n, ws, g⟩ :: after) k (some n) =
      leaveFetches before k none ++ ⟨n, ws, g⟩ :: leaveFetches after k none := by
    rw [← leaveFetches_some _ _ outer.1, ← leaveFetches_some _ _ outer.2]
    unfold leaveFetches
    rw [List.filterMap_append, List.filterMap_cons_some]
    rw [bne_self_eq_false, Bool.and_false]
    rfl
  have found : (leaveFetches before k none ++ ⟨n, ws, g⟩ :: leaveFetches after k none).any
      (fun f => f.pattern == n) = true :=
    List.any_eq_true.mpr ⟨⟨n, ws, g⟩, by simp, beq_self_eq_true n⟩
  rw [left, joinFetch, if_pos found, List.map_append, List.map_cons,
    joined_others (leaveFetches_others outer.1), joined_others (leaveFetches_others outer.2), beq_self_eq_true,
    Bool.true_and]
  by_cases waits : k ∈ ws <;> simp [waits]

end

/-! ### The part after an accepted PLAY (R143) -/

section
variable {s : Part} {p : Port} {k : Channel} {n : Pattern} {kb nb : Byte}

theorem Part.startPlay_hit {d : Descriptor} (cached : s.play.cached n = some d) :
    s.startPlay k n = { s with play := { s.play with
      cache := touchCache s.play.cache n
      fetches := leaveFetches s.play.fetches k none
      channels := s.play.channels.set k { s.channel k with
        state := .priming, pattern := some n, desc := some d, rest := d.filler
        nextFetch := 0, position := 0, queue := [], epoch := (s.channel k).epoch + 1 } } } := by
  unfold Part.startPlay
  dsimp only
  rw [cached]
  rfl

theorem Part.startPlay_miss (cached : s.play.cached n = none) :
    s.startPlay k n = { s with play := { s.play with
      fetches := joinFetch (leaveFetches s.play.fetches k (some n)) k n
      channels := s.play.channels.set k { s.channel k with
        state := .loading, pattern := some n, desc := none, nextFetch := 0
        position := 0, queue := [], epoch := (s.channel k).epoch + 1 } } } := by
  unfold Part.startPlay
  dsimp only
  rw [cached]
  rfl

/-! ### The checks of PLAY (R141) -/

theorem actPlay_badChannel (h : 7 < kb.toNat) : actPlay p [kb, nb] s = s.refuse .badChannel [kb, 0xFF] := by
  rw [actPlay, channelOf_none h]

variable (hk : kb.toNat = k.val)
include hk

theorem actPlay_notHolder (h : s.claims.holder (.channel k) ≠ some p) :
    actPlay p [kb, nb] s = s.refuse .notHolder [kb, (s.channel k).state.code] := by
  simp only [actPlay, channelOf_of_toNat hk, if_pos h, Part.channelFields_eq hk]

variable (held : s.claims.holder (.channel k) = some p)
include held

theorem actPlay_badPattern (h : 63 < nb.toNat) :
    actPlay p [kb, nb] s = s.refuse .badPattern [kb, (s.channel k).state.code] := by
  simp only [actPlay, channelOf_of_toNat hk, if_neg (not_not.mpr held), patternOf_none h, Part.channelFields_eq hk]

theorem actPlay_noMemory (h : nb.toNat ≤ 63) (bare : s.mem.size = .none) :
    actPlay p [kb, nb] s = s.refuse .noMemory [kb, (s.channel k).state.code] := by
  have named : patternOf nb = some ⟨nb.toNat, by omega⟩ := patternOf_of_toNat rfl
  simp only [actPlay, channelOf_of_toNat hk, if_neg (not_not.mpr held), named, if_pos bare, Part.channelFields_eq hk]

theorem actPlay_accepted (hn : nb.toNat = n.val) (memory : s.mem.size ≠ .none) :
    actPlay p [kb, nb] s = (s.startPlay k n).accept [kb, ((s.startPlay k n).channel k).state.code] := by
  simp only [actPlay, channelOf_of_toNat hk, if_neg (not_not.mpr held), patternOf_of_toNat hn, if_neg memory,
    Part.channelFields_eq hk]

end

/-- Settles O49: the four checks in their order, then the hit by `startPlay_hit` and `touchCache_split`, and the
miss by `startPlay_miss` with `joinFetch_created` or `joinFetch_joined`. -/
theorem playStartsAPattern : Obligations.PlayStartsAPattern := by
  intro p tag kb nb s ready outcome answer
  have answers {a : Answer} (h : actPlay p [kb, nb] s.part = a) :
      outcome = .next { s with part := a.part.pushReply p ⟨0x8E, tag, a.status, a.fields, a.marked⟩ } :=
    s.submit_fits p .play tag _ ready rfl h
  refine ⟨fun h => answers (actPlay_badChannel h), fun k hk => ?_⟩
  intro c held asItStands
  have stands : asItStands = [kb, c.state.code] := by
    cases state : c.state <;> simp only [asItStands, state] <;> rfl
  rw [stands]
  refine ⟨fun h => answers (actPlay_notHolder hk h), fun h high => answers (actPlay_badPattern hk h high),
    fun h low bare => answers (actPlay_noMemory hk h low bare), fun n h hn memory => ?_⟩
  intro leftOf
  have left : leftOf = fun fs => leaveFetches fs k none := funext fun fs => (leaveFetches_none fs k).symm
  clear_value leftOf
  cases left
  have accepted {t : Part} {fields : List Byte} (becomes : s.part.startPlay k n = t)
      (code : [kb, (t.channel k).state.code] = fields) :
      outcome = .next { s with part := t.pushReply p ⟨0x8E, tag, .ok, fields, false⟩ } := by
    subst becomes code
    exact answers (actPlay_accepted hk h hn memory)
  refine ⟨fun before after d cache others => ?_, fun uncached => ?_⟩
  · refine accepted ((Part.startPlay_hit (cached_some cache others)).trans ?_) ?_
    · rw [cache, touchCache_split others]
    · exact congrArg (fun c : ChannelRecord => [kb, c.state.code]) (Bank.get_set_self _ _ _)
  · intro fetches
    have code (fs : List Fetch) : [kb, (({ s.part with play := { s.part.play with
          fetches := fs
          channels := s.part.play.channels.set k { c with
            state := .loading, pattern := some n, desc := none, nextFetch := 0
            position := 0, queue := [], epoch := c.epoch + 1 } } } : Part).channel k).state.code] = [kb, 0x01] :=
      congrArg (fun c : ChannelRecord => [kb, c.state.code]) (Bank.get_set_self _ _ _)
    refine ⟨fun others => ?_, fun before after ws g pending others => ?_⟩
    · refine accepted ((Part.startPlay_miss (cached_none uncached)).trans ?_) (code _)
      rw [joinFetch_created others]
    · refine accepted ((Part.startPlay_miss (cached_none uncached)).trans ?_) (code _)
      rw [pending, joinFetch_joined others]

end Sys2Proof.Machine
end

section
/-! Chapter 10, the arbiter (R148, R149, R160, R161): the refill requests, the oldest fetch and the turn of the
channels. -/

namespace Sys2Proof.Machine

open Sys2Proof

/-- A refill request stands, written out (R148). -/
theorem ChannelRecord.wantsRefill_iff (c : ChannelRecord) : c.wantsRefill = true ↔
    (c.state = .priming ∨ c.state = .playing) ∧ c.queue.length + c.inFlight ≤ 16
      ∧ ∃ d, c.desc = some d ∧ (d.mode = .loop ∨ c.nextFetch < d.length.toNat) := by
  rw [ChannelRecord.wantsRefill, Bool.and_eq_true, Bool.and_eq_true, Bool.or_eq_true, beq_iff_eq, beq_iff_eq,
    decide_eq_true_eq, and_assoc]
  refine and_congr_right fun _ => and_congr_right fun _ => ?_
  cases c.desc with
  | none => simp
  | some d => cases mode : d.mode <;> simp [mode]

/-- The next fetch offset, written out (R149). -/
theorem nextOffset_eq (c : ChannelRecord) (d : Descriptor) (size : Nat) : nextOffset c d size =
    if d.mode = .loop ∧ c.nextFetch + size = d.length.toNat then d.loopOffset.toNat else c.nextFetch + size := by
  unfold nextOffset
  cases d.mode <;> simp

/-! ### The order of service (R160, R161) -/

/-- The channel that the arbiter visits as number `i + 1`. -/
theorem visitOrder_get : ∀ (pointer : Channel) (i : Fin 8),
    ((visitOrder pointer).get i).val = (pointer.val + (i.val + 1)) % 8 := by decide

section
variable {s : Part}

theorem PlaybackUnit.nextFetch_none {u : PlaybackUnit} (issued : ∀ f ∈ u.fetches, f.progress = .issued) :
    u.nextFetch = none :=
  List.find?_eq_none.mpr fun f hf => by rw [issued f hf]; decide

/-- The oldest fetch that awaits its issue. -/
theorem PlaybackUnit.nextFetch_some {u : PlaybackUnit} {before after : List Fetch} {f : Fetch}
    (pending : u.fetches = before ++ f :: after) (awaiting : f.progress = .awaitingIssue)
    (issued : ∀ f ∈ before, f.progress = .issued) : u.nextFetch = some f := by
  have front : (before.find? fun f => f.progress == .awaitingIssue) = none :=
    List.find?_eq_none.mpr fun f hf => by rw [issued f hf]; decide
  rw [PlaybackUnit.nextFetch, pending, List.find?_append, front, Option.none_or,
    List.find?_cons_of_pos (by rw [awaiting]; rfl)]

/-- Its issue leaves the fetches for other patterns as they are. -/
theorem issueFetch_split {before after : List Fetch} {n : Pattern} {ws : List Channel} {g : FetchProgress}
    (others : ∀ f ∈ before ++ after, f.pattern ≠ n) :
    issueFetch (before ++ ⟨n, ws, g⟩ :: after) n = before ++ ⟨n, ws, .issued⟩ :: after := by
  have same {fs : List Fetch} (h : ∀ f ∈ fs, f.pattern ≠ n) : issueFetch fs n = fs :=
    (List.map_congr_left fun f hf => if_neg (by simpa using h f hf)).trans (List.map_id fs)
  have outer := List.forall_mem_append.mp others
  calc issueFetch (before ++ ⟨n, ws, g⟩ :: after) n
      = issueFetch before n ++ ⟨n, ws, .issued⟩ :: issueFetch after n := by simp [issueFetch]
    _ = before ++ ⟨n, ws, .issued⟩ :: after := by rw [same outer.1, same outer.2]

theorem Part.nextRefill_none (quiet : ∀ k, (s.channel k).wantsRefill = false) : s.nextRefill = none :=
  List.find?_eq_none.mpr fun k _ => by rw [quiet k]; decide

/-- The first channel in turn whose refill request stands. -/
theorem Part.nextRefill_some {j : Nat} {k : Channel} (low : 1 ≤ j) (high : j ≤ 8)
    (turn : k.val = (s.mem.pointer.val + j) % 8)
    (passed : ∀ (i : Nat) (x : Channel), 1 ≤ i → i < j → x.val = (s.mem.pointer.val + i) % 8 →
      (s.channel x).wantsRefill = false)
    (wants : (s.channel k).wantsRefill = true) : s.nextRefill = some k := by
  refine List.find?_eq_some_iff_getElem.mpr ⟨wants, j - 1, show j - 1 < 8 by omega, ?_, fun i before => ?_⟩
  · have at_ := visitOrder_get s.mem.pointer ⟨j - 1, by omega⟩
    rw [show (j - 1) + 1 = j by omega, ← turn] at at_
    exact Fin.ext at_
  · exact congrArg not (passed (i + 1) _ (by omega) (by omega) (visitOrder_get s.mem.pointer ⟨i, by omega⟩))

/-! ### The choice (R149, R160) -/

theorem Part.arbitrate_busy (busy : s.mem.state ≠ .idle) : s.arbitrate = s := if_neg busy

theorem Part.arbitrate_fetch (idle : s.mem.state = .idle) {f : Fetch} (next : s.play.nextFetch = some f) :
    s.arbitrate = { s with
      play := { s.play with fetches := issueFetch s.play.fetches f.pattern }
      mem := s.mem.issue (descriptorBurst f.pattern) } := by
  rw [Part.arbitrate, if_pos idle, next]
  rfl

theorem Part.arbitrate_nothing (fetch : s.play.nextFetch = none) (refill : s.nextRefill = none) : s.arbitrate = s := by
  rw [Part.arbitrate, fetch, refill]
  exact ite_self s

theorem Part.arbitrate_refill (idle : s.mem.state = .idle) (fetch : s.play.nextFetch = none) {k : Channel}
    (refill : s.nextRefill = some k) {d : Descriptor} (copied : (s.channel k).desc = some d) :
    s.arbitrate = { s with
      play := { s.play with channels := s.play.channels.set k ((s.channel k).issued d) }
      mem := { s.mem.issue (refillBurst k (s.channel k) d) with pointer := k } } := by
  rw [Part.arbitrate, if_pos idle, fetch, refill]
  dsimp only
  rw [copied]
  rfl

end

theorem exec_arbiterChoice {s : State} (running : s.part.inReset = false) :
    exec .arbiterChoice s = .next { s with part := s.part.arbitrate } := by
  show s.answer (s.part.whenRunning Part.arbitrate) = _
  rw [State.answer_running running]

/-- Settles O51: `wantsRefill_iff`, and one `arbitrate_*` lemma for each of the arbiter's cases. -/
theorem theArbiterChoosesOneBurst : Obligations.TheArbiterChoosesOneBurst := by
  intro s running
  rw [exec_arbiterChoice running]
  refine ⟨fun k => (s.part.channel k).wantsRefill_iff, fun busy => ?_, ?_, fun _ issued quiet => ?_, ?_⟩
  · rw [Part.arbitrate_busy busy]
  · intro before after n ws idle pending issued others
    rw [Part.arbitrate_fetch idle (PlaybackUnit.nextFetch_some pending rfl issued), pending, issueFetch_split others]
    rfl
  · rw [Part.arbitrate_nothing (PlaybackUnit.nextFetch_none issued) (Part.nextRefill_none quiet)]
  · intro j k d idle issued low high turn passed wants copied c address size
    rw [Part.arbitrate_refill idle (PlaybackUnit.nextFetch_none issued)
      (Part.nextRefill_some low high turn passed wants) copied, ChannelRecord.issued, nextOffset_eq]
    rfl

end Sys2Proof.Machine
end

section
/-! Chapter 10, burst completion (R150, R151, R162): the delivery of a refill, and the end of the transaction. -/

namespace Sys2Proof.Machine

open Sys2Proof

theorem exec_burstCompletion {s : State} (running : s.part.inReset = false) (bytes : List Byte) :
    exec (.burstCompletion bytes) s = .next { s with part := s.part.completeBurst bytes } := by
  show s.answer (s.part.whenRunning fun d => d.completeBurst bytes) = _
  rw [State.answer_running running]

/-! ### The record after a refill (R150, R151) -/

section
variable {c : ChannelRecord} {e : Half} {bytes : List Byte}

/-- The priming level, written out (R151). -/
theorem ChannelRecord.primedEnough_iff (c : ChannelRecord) : c.primedEnough = true ↔
    16 ≤ c.queue.length ∨ ∃ d, c.desc = some d ∧ d.mode = .once ∧ d.length.toNat < 16 ∧ c.nextFetch = d.length.toNat := by
  rw [ChannelRecord.primedEnough, Bool.or_eq_true, decide_eq_true_eq]
  refine or_congr_right ?_
  cases c.desc with
  | none => simp
  | some d => simp [and_assoc]

theorem ChannelRecord.refilled_discarded (stale : ¬ (e = c.epoch ∧ (c.state = .priming ∨ c.state = .playing))) :
    c.refilled e bytes = { c with inFlight := 0 } := if_neg stale

theorem ChannelRecord.refilled_delivered (taken : e = c.epoch ∧ (c.state = .priming ∨ c.state = .playing)) :
    c.refilled e bytes =
      if c.state = .priming ∧ ({ c with inFlight := 0, queue := c.queue ++ bytes } : ChannelRecord).primedEnough then
        { c with inFlight := 0, queue := c.queue ++ bytes, state := .playing }
      else { c with inFlight := 0, queue := c.queue ++ bytes } := if_pos taken

end

/-! ### The end of the burst (R162) -/

section
variable {s : Part} {b : Burst} {bytes : List Byte}

/-- The port after a burst that no loan waits for. -/
theorem Part.completeBurst_reading (burst : s.mem.burst = some b) (whole : bytes.length = b.size)
    (reading : s.mem.state = .reading) :
    s.completeBurst bytes = (s.deliver b bytes).endTransaction.setMem
      { (s.deliver b bytes).endTransaction.mem with state := .idle } := by
  obtain ⟨same, seed⟩ := fitBytes_whole (seed := s.freeCount) whole
  rw [Part.completeBurst, burst]
  dsimp only
  rw [same, seed, reading]

/-- The port after a burst that a loan waits for. -/
theorem Part.completeBurst_pending (burst : s.mem.burst = some b) (whole : bytes.length = b.size)
    (pending : s.mem.state = .loanPending) :
    s.completeBurst bytes = (s.deliver b bytes).endTransaction.grant := by
  obtain ⟨same, seed⟩ := fitBytes_whole (seed := s.freeCount) whole
  rw [Part.completeBurst, burst]
  dsimp only
  rw [same, seed, pending]

theorem Part.deliver_mem (s : Part) (b : Burst) (bytes : List Byte) : (s.deliver b bytes).mem = s.mem := by
  rw [Part.deliver_eq]

/-- The memory port after the burst, by what it was reading for. -/
theorem Part.completeBurst_mem (burst : s.mem.burst = some b) (whole : bytes.length = b.size) :
    (s.mem.state = .reading → (s.completeBurst bytes).mem = { s.mem with
        state := .idle, burst := none, mck := (s.completeBurst bytes).mem.mck, mdo := (s.completeBurst bytes).mem.mdo })
    ∧ (s.mem.state = .loanPending → (s.completeBurst bytes).mem = { s.mem with
        state := .loaned, burst := none, loanGnt := true
        mck := (s.completeBurst bytes).mem.mck, mdo := (s.completeBurst bytes).mem.mdo }) := by
  have mem := s.deliver_mem b bytes
  refine ⟨fun reading => ?_, fun pending => ?_⟩
  · rw [Part.completeBurst_reading burst whole reading]
    generalize s.deliver b bytes = v at mem ⊢
    rw [← mem]
    rfl
  · rw [Part.completeBurst_pending burst whole pending]
    generalize s.deliver b bytes = v at mem ⊢
    rw [← mem]
    rfl

theorem Part.completeBurst_play (burst : s.mem.burst = some b) (whole : bytes.length = b.size)
    (busy : s.mem.state = .reading ∨ s.mem.state = .loanPending) :
    (s.completeBurst bytes).play = (s.deliver b bytes).play := by
  rcases busy with reading | pending
  · rw [Part.completeBurst_reading burst whole reading]
    rfl
  · rw [Part.completeBurst_pending burst whole pending]
    rfl

/-- The channels after the burst: those after the delivery, and MEMORY when the loan is granted. -/
theorem Part.completeBurst_chans (burst : s.mem.burst = some b) (whole : bytes.length = b.size) :
    (s.mem.state = .reading → (s.completeBurst bytes).chans = (s.deliver b bytes).chans)
    ∧ (s.mem.state = .loanPending → (s.completeBurst bytes).chans =
        ((s.deliver b bytes).raise (.memory .loaned 0 s.exch.counter)).chans) := by
  refine ⟨fun reading => ?_, fun pending => ?_⟩
  · rw [Part.completeBurst_reading burst whole reading]
    rfl
  · rw [Part.completeBurst_pending burst whole pending]
    have number : (s.deliver b bytes).exch.counter = s.exch.counter := by rw [Part.deliver_eq]
    generalize s.deliver b bytes = v at number ⊢
    rw [← number]
    rfl

end

/-- Settles O52: the record by `refilled_delivered` and `refilled_discarded`, the port and the channels by
`completeBurst_mem` and `completeBurst_chans`. -/
theorem refillBurstsComplete : Obligations.RefillBurstsComplete := by
  intro bytes k e address s running burst busy
  have mem := Part.completeBurst_mem burst (bytes := bytes) rfl
  have chans := Part.completeBurst_chans burst (bytes := bytes) rfl
  have play := Part.completeBurst_play burst (bytes := bytes) rfl busy
  have rest := s.part.completeBurst_eq bytes
  refine ⟨_, exec_burstCompletion running bytes, rfl, ?_⟩
  dsimp only
  have record : (s.part.completeBurst bytes).channel k = (s.part.channel k).refilled e bytes := by
    rw [Part.channel, play]
    exact Bank.get_set_self _ _ _
  have channels : (s.part.completeBurst bytes).play = { s.part.play with
      channels := s.part.play.channels.set k ((s.part.completeBurst bytes).channel k) } := by
    rw [record, play]
    rfl
  generalize s.part.completeBurst bytes = t at *
  have filled := ChannelRecord.primedEnough_iff { s.part.channel k with
    inFlight := 0, queue := (s.part.channel k).queue ++ bytes }
  refine ⟨fun stale => ?_, fun taken => ?_, fun taken priming full => ?_, fun taken priming short => ?_,
    fun reading => ⟨mem.1 reading, chans.1 reading⟩, fun pending => ⟨mem.2 pending, chans.2 pending⟩, ?_⟩
  · rw [record, ChannelRecord.refilled_discarded stale]
  · rw [record, ChannelRecord.refilled_delivered taken]
    by_cases priming : (s.part.channel k).state = .priming
    · rw [if_pos priming]
      split <;> rfl
    · rw [if_neg priming, if_neg fun h => priming h.1, ← taken.2.resolve_left priming]
  · rw [record, ChannelRecord.refilled_delivered taken, if_pos ⟨priming, filled.mpr full⟩]
  · rw [record, ChannelRecord.refilled_delivered taken, if_neg fun h => short (filled.mp h.2)]
    exact priming
  · rw [← channels]
    exact rest

end Sys2Proof.Machine
end

section
/-! Chapters 9 and 10: the halts of several channels and their PLAYBACK notices, in channel order (R154, R155);
what a descriptor fetch leaves (R138, R139, R145, R147). -/

namespace Sys2Proof.Machine

open Sys2Proof

/-! ### Notices that several channels raise (R155) -/

/-- The part tells the same ports of a notice: their lock states, their channels and the holders are the same. -/
def Part.tellsAs (s t : Part) : Prop := s.ports = t.ports ∧ s.chans = t.chans ∧ s.claims = t.claims

theorem Part.tellsAs.raise {s t : Part} (h : s.tellsAs t) (n : Notice) : (s.raise n).tellsAs (t.raise n) := by
  obtain ⟨ports, chans, claims⟩ := h
  have admits : ∀ p, s.admits n p = t.admits n p := fun p => by
    cases n <;> simp only [Part.admits, Part.inLock, Part.port, Part.chan, Part.directedTo, ports, chans, claims]
  refine ⟨ports, ?_, claims⟩
  rw [Part.raise_chans, Part.raise_chans]
  simp only [admits, Part.chan, chans]

theorem Part.tellsAs.raiseAll {s t : Part} (h : s.tellsAs t) (ns : List Notice) :
    (s.raiseAll ns).tellsAs (t.raiseAll ns) := by
  induction ns generalizing s t with
  | nil => exact h
  | cons n ns ih => exact ih (h.raise n)

theorem Part.tellsAs.trans {s t u : Part} (h : s.tellsAs t) (g : t.tellsAs u) : s.tellsAs u :=
  ⟨h.1.trans g.1, h.2.1.trans g.2.1, h.2.2.trans g.2.2⟩

/-- What reached a port is read off its channel. -/
theorem Part.reached_of_chans {s t told : Part} {p : Port} {n : Notice} (chans : t.chans = told.chans)
    (reached : s.reached told p n) : s.reached t p n := by
  obtain ⟨ns, chan, mem⟩ := reached
  exact ⟨ns, (congrArg (·.get p) chans).trans chan, mem⟩

/-- The PLAYBACK notices of channels that halt for one reason, in their order. -/
def Part.haltNotices (s : Part) (ks : List Channel) (r : HaltReason) : List Notice :=
  ks.map fun k => .playback k (.halted r) (s.channel k).pattern s.exch.counter

theorem Part.raiseAll_haltNotices (s : Part) (ks : List Channel) (r : HaltReason) (number : Half)
    (same : number = s.exch.counter) :
    ks.foldl (fun v k => v.raise (.playback k (.halted r) (s.channel k).pattern number)) s
      = s.raiseAll (s.haltNotices ks r) := by
  rw [same, Part.raiseAll, Part.haltNotices, List.foldl_map]

/-- Channels that halt one after another tell of it as though their notices alone were raised. -/
theorem Part.halts_tellsAs (s : Part) (ks : List Channel) (r : HaltReason) {v w : Part} (tells : v.tellsAs w)
    (number : v.exch.counter = s.exch.counter) (patterns : ∀ k, (v.channel k).pattern = (s.channel k).pattern) :
    (ks.foldl (fun d k => d.haltWithNotice k r) v).tellsAs (w.raiseAll (s.haltNotices ks r)) := by
  induction ks generalizing v w with
  | nil => exact tells
  | cons k ks ih =>
    refine ih (v := v.haltWithNotice k r) (w := w.raise _) ?_ number fun j => ?_
    · dsimp only
      rw [← patterns k, ← number]
      exact Part.tellsAs.raise tells (s := v.setChannel k ((v.channel k).halt r)) _
    · rw [← patterns j, Part.haltWithNotice, Part.raise_channel, Part.setChannel_channel]
      split
      case isTrue h => rw [h]; rfl
      case isFalse => rfl

/-- A channel's PLAYBACK notice reaches its holder in lock. -/
theorem Part.reached_haltNotices {s : Part} {ks : List Channel} {r : HaltReason} {k : Channel} {h : Port} (hk : k ∈ ks)
    (held : s.claims.holder (.channel k) = some h) (locked : s.inLock h = true) :
    s.reached (s.raiseAll (s.haltNotices ks r)) h (.playback k (.halted r) (s.channel k).pattern s.exch.counter) :=
  Part.reached_raiseAll (List.mem_map_of_mem hk) ((Part.admits_directed rfl).mpr ⟨locked, held⟩)

theorem allChannels_ascending : allChannels.Pairwise (· < ·) := by decide

/-! ### The directory record (R138, R139) -/

/-- The six tests, and the descriptor of a record that passes them. -/
theorem descriptorOf_eq (size : MemSize) (mark mode filler reserved s2 s1 s0 l2 l1 l0 o2 o1 o0 : Byte)
    (rest : List Byte) :
    descriptorOf size (mark :: mode :: filler :: reserved :: s2 :: s1 :: s0 :: l2 :: l1 :: l0 :: o2 :: o1 :: o0
        :: rest) =
      if mark = 0x5C ∧ mode.toNat ≤ 1 ∧ reserved = 0x00 ∧ 1 ≤ (addr l2 l1 l0).toNat
          ∧ (addr o2 o1 o0).toNat < (addr l2 l1 l0).toNat
          ∧ (addr s2 s1 s0).toNat + (addr l2 l1 l0).toNat ≤ size.bytes then
        some ⟨if mode = 0x00 then .once else .loop, filler, addr s2 s1 s0, addr l2 l1 l0, addr o2 o1 o0⟩
      else none := by
  by_cases low : mode.toNat ≤ 1
  · rcases flag_cases low with rfl | rfl
    · simp [descriptorOf, patternModeOf]
    · simp [descriptorOf, patternModeOf]
  · have other : mode ≠ 0 ∧ mode ≠ 1 := by constructor <;> (rintro rfl; exact low (by decide))
    rw [if_neg fun h => low h.2.1]
    simp only [descriptorOf, patternModeOf, if_neg other.1, if_neg other.2]

/-! ### The fetch's completion (R145, R147) -/

section
variable {s : Part} {n : Pattern} {record : List Byte}

/-- A valid record is installed, and the waiting channels prime; nobody is told. -/
theorem Part.fetchCompleted_valid {d : Descriptor} (valid : descriptorOf s.mem.size record = some d) :
    (s.fetchCompleted n record).play.fetches = (s.play.fetches.filter fun f => f.pattern != n)
      ∧ (s.fetchCompleted n record).play.cache = ⟨n, d⟩ :: s.play.cache.take 3
      ∧ (∀ k, (s.fetchCompleted n record).channel k =
          if k ∈ s.play.waitersOf n then (s.channel k).prime d else s.channel k)
      ∧ (s.fetchCompleted n record).tellsAs s := by
  unfold Part.fetchCompleted
  dsimp only
  rw [valid]
  dsimp only
  refine ⟨?_, ?_, fun k => ?_, ?_⟩
  · exact foldl_keeps (fun (s : Part) k => s.setChannel k ((s.channel k).prime d)) (fun v => v.play.fetches)
      (fun _ _ => rfl) _ _
  · exact foldl_keeps (fun (s : Part) k => s.setChannel k ((s.channel k).prime d)) (fun v => v.play.cache)
      (fun _ _ => rfl) _ _
  · exact Part.primes_channel _ _ (s.play.waitersOf_nodup n) d k
  · rw [Part.primes_eq]
    exact ⟨rfl, rfl, rfl⟩

/-- An invalid one halts them, each with its notice. -/
theorem Part.fetchCompleted_invalid (invalid : descriptorOf s.mem.size record = none) :
    (s.fetchCompleted n record).play.fetches = (s.play.fetches.filter fun f => f.pattern != n)
      ∧ (s.fetchCompleted n record).play.cache = s.play.cache
      ∧ (∀ k, (s.fetchCompleted n record).channel k =
          if k ∈ s.play.waitersOf n then (s.channel k).halt .badPattern else s.channel k)
      ∧ (s.fetchCompleted n record).tellsAs (s.raiseAll (s.haltNotices (s.play.waitersOf n) .badPattern)) := by
  unfold Part.fetchCompleted
  dsimp only
  rw [invalid]
  dsimp only
  refine ⟨?_, ?_, fun k => ?_, ?_⟩
  · exact foldl_keeps (fun (s : Part) k => s.haltWithNotice k .badPattern) (fun v => v.play.fetches)
      (fun _ _ => rfl) _ _
  · exact foldl_keeps (fun (s : Part) k => s.haltWithNotice k .badPattern) (fun v => v.play.cache)
      (fun _ _ => rfl) _ _
  · exact Part.halts_channel _ _ (s.play.waitersOf_nodup n) .badPattern k
  · exact Part.halts_tellsAs s _ .badPattern ⟨rfl, rfl, rfl⟩ rfl fun _ => rfl

end

end Sys2Proof.Machine
end

section
/-! Chapter 10, the completion of a descriptor burst (R138, R139, R145, R147, R162). -/

namespace Sys2Proof.Machine

open Sys2Proof

/-- The memory bound, written out (R139). -/
theorem MemSize.bytes_eq (size : MemSize) : size.bytes = match size with
    | .none => 0
    | .mib1 => 0x100000
    | .mib4 => 0x400000
    | .mib16 => 0x1000000 := by
  cases size <;> rfl

section
variable {s : Part} {n : Pattern} {address : Addr} {bytes : List Byte} {told : Part}

/-- The part with the burst read for no loan. -/
def Part.atReading (s : Part) : Part := { s with mem := { s.mem with state := .reading } }

/-- The completion of a fetch tells what it tells whether a loan waits or not. -/
theorem Part.fetchCompleted_tells_nothing {record : List Byte} {d : Descriptor}
    (valid : descriptorOf s.mem.size record = some d) :
    (s.fetchCompleted n record).tellsAs s ∧ (s.atReading.fetchCompleted n record).tellsAs s :=
  ⟨(Part.fetchCompleted_valid valid).2.2.2,
    (Part.fetchCompleted_valid (s := s.atReading) valid).2.2.2.trans ⟨rfl, rfl, rfl⟩⟩

theorem Part.fetchCompleted_tells_halts {record : List Byte} (invalid : descriptorOf s.mem.size record = none) :
    (s.fetchCompleted n record).tellsAs (s.raiseAll (s.haltNotices (s.play.waitersOf n) .badPattern))
      ∧ (s.atReading.fetchCompleted n record).tellsAs
        (s.raiseAll (s.haltNotices (s.play.waitersOf n) .badPattern)) :=
  ⟨(Part.fetchCompleted_invalid invalid).2.2.2,
    (Part.fetchCompleted_invalid (s := s.atReading) invalid).2.2.2.trans
      (Part.tellsAs.raiseAll (s := s.atReading) (t := s) ⟨rfl, rfl, rfl⟩ _)⟩

variable (burst : s.mem.burst = some ⟨.descriptor n, address, 16⟩) (whole : bytes.length = 16)
  (tells : (s.fetchCompleted n bytes).tellsAs told)
include burst whole tells

/-- The channels after the burst, where the fetch's completion tells as `told` does. -/
theorem Part.completeBurst_told :
    (s.mem.state = .reading → (s.completeBurst bytes).chans = told.chans)
      ∧ (s.mem.state = .loanPending →
        (s.completeBurst bytes).chans = (told.raise (.memory .loaned 0 s.exch.counter)).chans) := by
  have chans := Part.completeBurst_chans burst whole
  exact ⟨fun reading => (chans.1 reading).trans tells.2.1,
    fun pending => (chans.2 pending).trans (tells.raise _).2.1⟩

/-- Either way each notice that the fetch's completion raised has reached its port. -/
theorem Part.completeBurst_reached (busy : s.mem.state = .reading ∨ s.mem.state = .loanPending) {p : Port} {x : Notice}
    (reached : s.reached told p x) : s.reached (s.completeBurst bytes) p x := by
  obtain ⟨first, second⟩ := Part.completeBurst_told burst whole tells
  rcases busy with reading | pending
  · exact Part.reached_of_chans (first reading) reached
  · exact Part.reached_of_chans (second pending) (Part.reached_between (Part.calm_refl s) reached
      (Part.calm_raise told (.memory .loaned 0 s.exch.counter)))

/-- The grant comes after all that the burst without a loan tells. -/
theorem Part.completeBurst_granted (tells' : (s.atReading.fetchCompleted n bytes).tellsAs told)
    (pending : s.mem.state = .loanPending) :
    (s.completeBurst bytes).chans =
      ((s.atReading.completeBurst bytes).raise (.memory .loaned 0 s.exch.counter)).chans := by
  have same : (s.atReading.completeBurst bytes).tellsAs told := by
    rw [Part.completeBurst_reading (s := s.atReading) burst whole rfl]
    exact Part.tellsAs.trans ⟨rfl, rfl, rfl⟩ tells'
  exact ((Part.completeBurst_told burst whole tells).2 pending).trans (same.raise _).2.1.symm

end

/-- Settles O53: a valid record by `fetchCompleted_valid`, an invalid one by `fetchCompleted_invalid`, and the port
by `completeBurst_mem`. -/
theorem descriptorFetchesComplete : Obligations.DescriptorFetchesComplete := by
  intro n address mark mode filler reserved s2 s1 s0 l2 l1 l0 o2 o1 o0 x y z s running burst busy bytes start
    length loopOffset bound valid d waits
  have whole : bytes.length = 16 := rfl
  have record : descriptorOf s.part.mem.size bytes = if valid then some d else none := by
    rw [descriptorOf_eq, MemSize.bytes_eq]
    rfl
  have accepted : valid → descriptorOf s.part.mem.size bytes = some d := fun ok => record.trans (if_pos ok)
  have refused : ¬ valid → descriptorOf s.part.mem.size bytes = none := fun bad => record.trans (if_neg bad)
  have rests : d.filler = filler := rfl
  clear record
  have waiting : ∀ k, k ∈ s.part.play.waitersOf n ↔ waits k := fun k => PlaybackUnit.mem_waitersOf
  clear_value bytes valid d
  have mem := Part.completeBurst_mem burst whole
  have play := (Part.completeBurst_play burst whole busy : _ = (s.part.fetchCompleted n bytes).play)
  have channel : ∀ k, (s.part.completeBurst bytes).channel k = (s.part.fetchCompleted n bytes).channel k :=
    fun k => congrArg (fun u : PlaybackUnit => u.channels.get k) play
  have patterns : (s.part.play.fetches.filter fun f => f.pattern != n)
      = s.part.play.fetches.filter fun f => decide (f.pattern ≠ n) :=
    List.filter_congr fun f _ => Bool.eq_iff_iff.mpr (bne_iff_ne.trans decide_eq_true_iff.symm)
  refine ⟨_, exec_burstCompletion running bytes, rfl, ?_⟩
  dsimp only
  by_cases ok : valid
  · obtain ⟨fetches, cache, channels, -⟩ := Part.fetchCompleted_valid (n := n) (accepted ok)
    obtain ⟨tells, tells'⟩ := Part.fetchCompleted_tells_nothing (n := n) (accepted ok)
    refine ⟨(congrArg PlaybackUnit.fetches play).trans (fetches.trans patterns),
      fun reading => ⟨mem.1 reading, fun _ => (Part.completeBurst_told burst whole tells).1 reading⟩,
      fun pending => ⟨mem.2 pending, _,
        exec_burstCompletion (s := ⟨s.part.atReading, s.pending⟩) running bytes, Part.completeBurst_granted burst whole tells tells' pending⟩,
      fun k free => ?_, fun _ => ⟨(congrArg PlaybackUnit.cache play).trans cache, fun k waits => ?_⟩,
      Part.onlyNoticesJoined_of_notified (s.part.completeBurst_notified bytes), fun bad => absurd ok bad,
      fun bad => absurd ok bad, s.part.completeBurst_eq bytes⟩
    · rw [channel, channels, if_neg ((waiting k).not.mpr free)]
    · rw [channel, channels, if_pos ((waiting k).mpr waits), ← rests]
      rfl
  · obtain ⟨fetches, cache, channels, -⟩ := Part.fetchCompleted_invalid (n := n) (refused ok)
    obtain ⟨tells, tells'⟩ := Part.fetchCompleted_tells_halts (n := n) (refused ok)
    refine ⟨(congrArg PlaybackUnit.fetches play).trans (fetches.trans patterns),
      fun reading => ⟨mem.1 reading, fun good => absurd good ok⟩,
      fun pending => ⟨mem.2 pending, _,
        exec_burstCompletion (s := ⟨s.part.atReading, s.pending⟩) running bytes, Part.completeBurst_granted burst whole tells tells' pending⟩,
      fun k free => ?_, fun good => absurd good ok,
      Part.onlyNoticesJoined_of_notified (s.part.completeBurst_notified bytes),
      fun _ => ⟨s.part.play.waitersOf n, allChannels_ascending.filter _, waiting, ?_⟩,
      fun _ => ⟨(congrArg PlaybackUnit.cache play).trans cache, fun k waits => ⟨?_, fun h held locked => ?_⟩⟩,
      s.part.completeBurst_eq bytes⟩
    · rw [channel, channels, if_neg ((waiting k).not.mpr free)]
    · rw [Part.raiseAll_haltNotices _ _ _ _ rfl]
      exact Part.completeBurst_told burst whole tells
    · rw [channel, channels, if_pos ((waiting k).mpr waits)]
      rfl
    · exact Part.completeBurst_reached burst whole tells busy
        (Part.reached_haltNotices ((waiting k).mpr waits) held locked)

end Sys2Proof.Machine
end

section
/-! Chapter 10, the release of LOAN_REQ (R158, R164 to R166): the request withdrawn, and the return of the memory. -/

namespace Sys2Proof.Machine

open Sys2Proof

/-! ### The channels that the return halts (R165) -/

theorem ChannelRecord.dependsOnMemory_iff (c : ChannelRecord) : c.dependsOnMemory = true ↔
    c.state = .loading ∨ c.state = .priming ∨ c.state = .playing := by
  rw [ChannelRecord.dependsOnMemory, Bool.or_eq_true, Bool.or_eq_true, beq_iff_eq, beq_iff_eq, beq_iff_eq, or_assoc]

section
variable (s : Part)

theorem Part.mem_retakenChannels {k : Channel} : k ∈ s.retakenChannels ↔
    (s.channel k).state = .loading ∨ (s.channel k).state = .priming ∨ (s.channel k).state = .playing := by
  rw [Part.retakenChannels, List.mem_filter, ← ChannelRecord.dependsOnMemory_iff]
  exact and_iff_right (mem_allChannels k)

/-- The part with the pins driven, cache and fetches empty, and the dependent channels halted. -/
def Part.retaken : Part :=
  s.retakenChannels.foldl (fun d k => d.haltWithNotice k .memoryRetaken) ((s.drivePins.setCache []).setFetches [])

theorem Part.retaken_channel (k : Channel) : s.retaken.channel k =
    if k ∈ s.retakenChannels then (s.channel k).halt .memoryRetaken else s.channel k :=
  Part.halts_channel _ _ (allChannels_nodup.filter _) .memoryRetaken k

theorem Part.retaken_blocks : s.retaken.play.cache = [] ∧ s.retaken.play.fetches = [] ∧ s.retaken.mem = s.drivePins.mem
    ∧ s.retaken.exch = s.exch := by
  have kept := foldl_keeps (fun (d : Part) k => d.haltWithNotice k .memoryRetaken)
    (fun v => (v.play.cache, v.play.fetches, v.mem, v.exch)) (fun _ _ => rfl) s.retakenChannels
    ((s.drivePins.setCache []).setFetches [])
  obtain ⟨cache, rest⟩ := Prod.mk.inj kept
  obtain ⟨fetches, rest⟩ := Prod.mk.inj rest
  exact ⟨cache, fetches, Prod.mk.inj rest⟩

/-- After the return nothing asks for the memory. -/
theorem Part.retaken_quiet (k : Channel) : (s.retaken.channel k).wantsRefill = false := by
  rw [Part.retaken_channel]
  split
  case isTrue => rfl
  case isFalse stays =>
    rw [Part.mem_retakenChannels] at stays
    exact Bool.eq_false_iff.mpr fun wants => stays (.inr ((ChannelRecord.wantsRefill_iff _).mp wants).1)

/-- The arbiter finds nothing to do after the return, so that MEMORY is its last effect. -/
theorem Part.returned_retaken :
    s.returned = s.retaken.raise (.memory .returned s.retakenChannels.length s.exch.counter) := by
  obtain ⟨-, fetches, -, exch⟩ := s.retaken_blocks
  have told : s.returned = (s.retaken.raise (.memory .returned s.retakenChannels.length s.retaken.exch.counter)).arbitrate :=
    rfl
  rw [told, exch]
  refine Part.arbitrate_nothing (PlaybackUnit.nextFetch_none ?_) (Part.nextRefill_none fun k => s.retaken_quiet k)
  intro f hf
  rw [Part.raise_play, fetches] at hf
  cases hf

theorem Part.returned_channel (k : Channel) : s.returned.channel k =
    if k ∈ s.retakenChannels then (s.channel k).halt .memoryRetaken else s.channel k := by
  rw [Part.returned_retaken, Part.raise_channel, Part.retaken_channel]

theorem Part.returned_blocks :
    s.returned.play.cache = [] ∧ s.returned.play.fetches = [] ∧ s.returned.mem = s.drivePins.mem := by
  obtain ⟨cache, fetches, mem, -⟩ := s.retaken_blocks
  rw [Part.returned_retaken]
  exact ⟨cache, fetches, mem⟩

/-- The channels after the return: each halted channel's notice, then MEMORY. -/
theorem Part.returned_chans {s v : Part} (same : v.tellsAs s) (number : v.exch.counter = s.exch.counter)
    (patterns : ∀ k, (v.channel k).pattern = (s.channel k).pattern) : v.returned.chans =
      ((s.raiseAll (s.haltNotices v.retakenChannels .memoryRetaken)).raise
        (.memory .returned v.retakenChannels.length s.exch.counter)).chans := by
  have tells : v.retaken.tellsAs (s.raiseAll (s.haltNotices v.retakenChannels .memoryRetaken)) :=
    Part.halts_tellsAs s _ .memoryRetaken (v := (v.drivePins.setCache []).setFetches []) same number patterns
  rw [Part.returned_retaken, ← number]
  exact (tells.raise _).2.1

end

/-! ### The release (R158, R164) -/

theorem exec_loanReqRelease {s : State} (running : s.part.inReset = false) (high : s.part.mem.loanReq = true) :
    exec .loanReqRelease s = .next { s with part := (s.part.setLoanReq false).takeLoanRelease } := by
  simp [exec, execLoanReqRelease, State.answer, high, Part.whenRunning, running]

section
variable {s : Part}

theorem Part.takeLoanRelease_bare (bare : s.mem.size = .none) :
    s.takeLoanRelease = { s with mem := { s.mem with loanGnt := false } } := if_pos bare

theorem Part.takeLoanRelease_withdrawn (memory : s.mem.size ≠ .none) (pending : s.mem.state = .loanPending) :
    s.takeLoanRelease = { s with mem := { s.mem with state := .reading } } := by
  rw [Part.takeLoanRelease, if_neg memory, pending]
  rfl

theorem Part.takeLoanRelease_returned (memory : s.mem.size ≠ .none) (loaned : s.mem.state = .loaned) :
    s.takeLoanRelease = s.returned := by
  rw [Part.takeLoanRelease, if_neg memory, loaned]

end

/-- Settles O55: the withdrawal and the bare port directly; the return by `returned_retaken`, its halts by
`retaken_channel` and its notices by `retaken_tells`. -/
theorem loanReleasesReturnTheMemory : Obligations.LoanReleasesReturnTheMemory := by
  intro s running high
  rw [exec_loanReqRelease running high]
  refine ⟨fun bare => ?_, fun memory pending => ?_, fun memory loaned => ?_⟩
  · rw [Part.takeLoanRelease_bare (s := s.part.setLoanReq false) bare]
    rfl
  · rw [Part.takeLoanRelease_withdrawn (s := s.part.setLoanReq false) memory pending]
    rfl
  · rw [Part.takeLoanRelease_returned (s := s.part.setLoanReq false) memory loaned]
    have joined := Part.onlyNoticesJoined_of_notified (s.part.setLoanReq false).returned_notified
    have rest := (s.part.setLoanReq false).returned_eq
    have channel := (s.part.setLoanReq false).returned_channel
    have ks := fun k => (s.part.setLoanReq false).mem_retakenChannels (k := k)
    obtain ⟨cache, fetches, mem⟩ := (s.part.setLoanReq false).returned_blocks
    have ascending : (s.part.setLoanReq false).retakenChannels.Pairwise (· < ·) := allChannels_ascending.filter _
    have distinct : (s.part.setLoanReq false).retakenChannels.Nodup := allChannels_nodup.filter _
    have told := Part.returned_chans (v := s.part.setLoanReq false) (s := s.part) ⟨rfl, rfl, rfl⟩ rfl fun _ => rfl
    generalize (s.part.setLoanReq false).retakenChannels = halted at *
    have members : ∀ k, k ∈ halted ↔ (s.part.channel k).state = .loading ∨ (s.part.channel k).state = .priming
        ∨ (s.part.channel k).state = .playing := ks
    refine ⟨_, rfl, rfl, ?_, ?_, cache, fetches, ⟨joined, ⟨halted, ascending, members, ?_⟩, fun k free => ?_,
      fun k depends => ⟨?_, fun h held locked => ?_⟩, fun p locked masked => ⟨halted, distinct, members, ?_⟩⟩, ?_⟩
    · exact mem.trans (congrArg (fun m : MemPort => { s.part.mem with
        loanReq := false, loanGnt := false, state := .idle, mck := false, mdo := m.mdo }) mem).symm
    · exact fun quiet => (congrArg MemPort.mdo mem).trans (if_pos quiet)
    · rw [Part.raiseAll_haltNotices _ _ _ _ rfl]
      exact told
    · exact (channel k).trans (if_neg ((members k).not.mpr free))
    · exact (channel k).trans (if_pos ((members k).mpr depends))
    · exact Part.reached_of_chans told (Part.reached_between (Part.calm_refl _)
        (Part.reached_haltNotices ((members k).mpr depends) held locked) (Part.calm_raise _ _))
    · refine Part.reached_of_chans told (Part.reached_between (s.part.raiseAll_calm _) (Part.reached_raise ?_)
        (Part.calm_refl _))
      rw [(s.part.raiseAll_calm _).admits (Part.raiseAll_eq _ _ ▸ rfl)]
      exact (Part.admits_broadcast (bit := 4) rfl).mpr ⟨locked, nofun, masked⟩
    · exact rest

end Sys2Proof.Machine
end
